-- ==== Sys2Proof/Word.lean ====
section
/-! DEFINITION. The word types of CVC (00_scope.md section 5.1): bytes, 16-bit raw codes, the 56-bit request word and the
72-bit response word. -/

namespace Sys2Proof

/-- `u8`. -/
abbrev Byte := BitVec 8

/-- `u16`: a raw code, or any 16-bit value a checksum is computed over. -/
abbrev Code := BitVec 16

/-- `u56`: the request word `REQ` (R46). -/
abbrev ReqWord := BitVec 56

/-- `u72`: the response word `RSP` (R49). -/
abbrev RspWord := BitVec 72

/-- `u64`: the `DATA` field of a response (R49). -/
abbrev Data := BitVec 64

/-- A length of time. The source gives no unit to any of its three durations (R211, N6): a duration is a number of units
that the model leaves without a name (log 16, DESIGN CHOICE). -/
abbrev Duration := Nat

end Sys2Proof
end

