-- ==== Sys2Proof/Config.lean ====
section
/-! DEFINITION. What an implementation fixes (the OPEN parameters of R7) and the free values (the values R27 and U12 leave
unspecified after reset). The bodiless constants below have no value that a proof could see. -/

namespace Sys2Proof

/-- FPFMT: the two admitted floating-point formats (R117, D13). -/
inductive FpFormat where
  | binary32
  | binary64
  deriving DecidableEq, Repr, Inhabited

/-- The byte selector of the checksum machine (R16), `phase` of R73. -/
inductive ByteSel where
  | hi
  | lo
  deriving DecidableEq, Repr, Inhabited

/-- The four OPEN parameters of 00_scope.md R7 and of the last table of 92_eei_decisions.md. -/
structure Params where
  /-- FPFMT, fixed when the block is built (R122). -/
  fpfmt : FpFormat
  /-- SETTLE_MIN: the least the host waits between PowerUp and Measure (R152, R205). -/
  settleMin : Duration
  /-- CYCLE_DELAY: the host's inter-cycle sleep (R154). -/
  cycleDelay : Duration
  /-- TIMEOUT: the one timeout of the three Transport calls (R151 to R153, D27; log 24). -/
  timeout : Duration
  deriving DecidableEq, Repr, Inhabited

namespace Config

/-- The parameters this block and its host were built with. It has no body: nothing can be proved of its value (log 3). -/
opaque build : Params

/-- Free values for the latch `pending` after a reset (R27; log 4). The argument numbers the draws. -/
opaque freePending : Nat → RspWord

/-- Free values for the request word of the operation in progress after a reset (log 4, log 5). -/
opaque freeHeld : Nat → ReqWord

/-- Free values for the checksum accumulator after a reset (R27; log 4). -/
opaque freeAcc : Nat → Byte

/-- Free values for the byte selector after a reset (R27; log 4). -/
opaque freeSel : Nat → ByteSel

/-- Free values for the iteration counter, 0 to 8, after a reset (R27; log 4). -/
opaque freeIter : Nat → Fin 9

end Config

end Sys2Proof
end

