-- ==== Sys2Proof/Machine/Float.lean ====
section
/-! DEFINITION. The floating-point primitives of R117: `fcvt`, `fdiv`, `fmul`, `fadd` and `fbits`, in binary32 or binary64.
A value is an integer times a power of two; each operation forms its exact result as a quotient of integers times a power
of two and rounds it once, to nearest with ties to the even significand. Infinities, NaNs and negative zero do not occur as
operands (R123): the operations are defined on finite values, and a result too large for the format shows in `fbits` as an
infinity (log 10). -/

namespace Sys2Proof.Machine

/-- A finite floating-point value: `mant * 2 ^ exp`. -/
structure Fp where
  mant : Int
  exp : Int
  deriving DecidableEq, Repr, Inhabited

/-- Bits of the significand, the leading one included: 24 or 53 (R117, R118). -/
def fpPrecision : FpFormat → Nat
  | .binary32 => 24
  | .binary64 => 53

/-- Bits of the exponent field: 8 or 11 (R117). -/
def fpExpBits : FpFormat → Nat
  | .binary32 => 8
  | .binary64 => 11

/-- Bits of the fraction field: 23 or 52 (R117). -/
def fpFracBits (f : FpFormat) : Nat := fpPrecision f - 1

/-- The exponent bias: 127 or 1023 (93_implementation_defined.md G1). -/
def fpBias (f : FpFormat) : Nat := 2 ^ (fpExpBits f - 1) - 1

/-- The exponent of the last place of the subnormal numbers: -149 or -1074. -/
def fpMinExp (f : FpFormat) : Int := 1 - (fpBias f : Int) - (fpFracBits f : Int)

/-- `num / den` scaled by `2 ^ k`, as numerator and denominator. -/
def scaleQuot (num den : Nat) (k : Int) : Nat × Nat :=
  match k with
  | .ofNat k => (num * 2 ^ k, den)
  | .negSucc k => (num, den * 2 ^ (k + 1))

/-- `floor(log2 (num / den))` for positive `num` and `den`. -/
def quotLog2 (num den : Nat) : Int :=
  let l : Int := (num.log2 : Int) - (den.log2 : Int)
  let q := scaleQuot num den (-l)
  if q.2 ≤ q.1 then l else l - 1

/-- The integer nearest to `num / den`, the even one of two equally near. -/
def roundHalfEven (num den : Nat) : Nat :=
  let q := num / den
  let r := num % den
  if 2 * r < den then q
  else if den < 2 * r then q + 1
  else q + q % 2

/-- R117: the value `num / den * 2 ^ e` rounded once to the format. The last place of the result is `fpPrecision` bits below
the leading bit of the exact value, and never below the last place of the subnormal numbers. -/
def fround (f : FpFormat) (num : Int) (den : Nat) (e : Int) : Fp :=
  if num = 0 then ⟨0, 0⟩
  else
    let ulp := max (quotLog2 num.natAbs den + e - (fpFracBits f : Int)) (fpMinExp f)
    let q := scaleQuot num.natAbs den (e - ulp)
    let n := roundHalfEven q.1 q.2
    ⟨if num < 0 then -(n : Int) else (n : Int), ulp⟩

/-- R117 `fcvt(n)`: an integer converted to the format. -/
def fcvt (f : FpFormat) (n : Int) : Fp := fround f n 1 0

/-- R117 `fdiv(a, b)`, for `b` not zero. -/
def fdiv (f : FpFormat) (a b : Fp) : Fp :=
  fround f (a.mant * b.mant.sign) b.mant.natAbs (a.exp - b.exp)

/-- R117 `fmul(a, b)`. -/
def fmul (f : FpFormat) (a b : Fp) : Fp := fround f (a.mant * b.mant) 1 (a.exp + b.exp)

/-- R117 `fadd(a, b)`: both operands are brought to the lower exponent, added exactly, and the sum is rounded once. -/
def fadd (f : FpFormat) (a b : Fp) : Fp :=
  let e := min a.exp b.exp
  fround f (a.mant * (2 ^ (a.exp - e).toNat : Nat) + b.mant * (2 ^ (b.exp - e).toNat : Nat)) 1 e

/-- The exponent field and the fraction field of a non-zero magnitude `m * 2 ^ e`, as one number: the exponent field
stands above the fraction field. -/
def fbitsMagnitude (f : FpFormat) (m : Nat) (e : Int) : Nat :=
  let top : Int := (m.log2 : Int) + e
  let ulp := max (top - (fpFracBits f : Int)) (fpMinExp f)
  let q := scaleQuot m 1 (e - ulp)
  let sig := q.1 / q.2
  let biased := (ulp - fpMinExp f).toNat
  -- a normal number's leading one counts one in the exponent field; a subnormal number has no leading one and field 0
  let field := biased * 2 ^ fpFracBits f + sig
  if (2 ^ fpExpBits f - 1) * 2 ^ fpFracBits f ≤ field
  then (2 ^ fpExpBits f - 1) * 2 ^ fpFracBits f
  else field

/-- `fbits(x)` (00_scope.md section 5.3): the bit pattern of the value, right-aligned in 64 bits (R122). -/
def fbits (f : FpFormat) (x : Fp) : Data :=
  if x.mant = 0 then 0#64
  else
    BitVec.ofNat 64
      (fbitsMagnitude f x.mant.natAbs x.exp
        + if x.mant < 0 then 2 ^ (fpExpBits f + fpFracBits f) else 0)

end Sys2Proof.Machine
end

