-- ==== Sys2Proof/Syntax.lean ====
section
/-! DEFINITION. The twelve operations of CVC (R52), one constructor per row of spec/opcode_table.json. Every operand has
exactly the width of its field in the request word (R47, R48). -/

namespace Sys2Proof

/-- An operation request with its operands (R45, R52). -/
inductive Instr where
  /-- CRC8 (R74). -/
  | crc8 (code : Code)
  /-- VALIDATE (R75). -/
  | validate (value : Code) (expected : Byte)
  /-- ENC.PUP (R91). -/
  | encPup
  /-- ENC.PDN (R92). -/
  | encPdn
  /-- ENC.MEAS (R93). -/
  | encMeas
  /-- DECODE (R102): the six bytes in wire order, `b0` the first received. -/
  | decode (b0 b1 b2 b3 b4 b5 : Byte)
  /-- CVT.TC (R119). -/
  | cvtTc (code : Code)
  /-- CVT.TF (R120). -/
  | cvtTf (code : Code)
  /-- CVT.RH (R121). -/
  | cvtRh (code : Code)
  /-- CVTX.TC (R125). -/
  | cvtxTc (code : Code)
  /-- CVTX.TF (R126). -/
  | cvtxTf (code : Code)
  /-- CVTX.RH (R127). -/
  | cvtxRh (code : Code)
  deriving DecidableEq, Repr, Inhabited

/-- The name R52 and R57 give the operation. -/
def Instr.mnemonic : Instr → String
  | .crc8 _ => "CRC8"
  | .validate _ _ => "VALIDATE"
  | .encPup => "ENC.PUP"
  | .encPdn => "ENC.PDN"
  | .encMeas => "ENC.MEAS"
  | .decode _ _ _ _ _ _ => "DECODE"
  | .cvtTc _ => "CVT.TC"
  | .cvtTf _ => "CVT.TF"
  | .cvtRh _ => "CVT.RH"
  | .cvtxTc _ => "CVTX.TC"
  | .cvtxTf _ => "CVTX.TF"
  | .cvtxRh _ => "CVTX.RH"

end Sys2Proof
end

