-- ==== Sys2Proof/WellFormed.lean ====
section
/-! DEFINITION. What makes a request word legal, from the mask and match columns of R52, independently of the decoder; and
the length check a host makes before it issues DECODE (R106, R179).

Operands need no check: a field of an `Instr` has the width of its field in the word (R48), so every `Instr` is
well-formed. What can be ill-formed is a word (a reserved `OP`, a set must-be-zero bit) or an untyped byte sequence. -/

namespace Sys2Proof

/-- One row of the opcode map R52. -/
structure OpRow where
  mnemonic : String
  op : Byte
  pattern : ReqWord
  mask : ReqWord
  deriving DecidableEq, Repr

/-- R52: a request word selects the row when `w & mask == match`. -/
def OpRow.selects (r : OpRow) (w : ReqWord) : Bool := w &&& r.mask == r.pattern

/-- The opcode map R52, row by row. -/
def opcodeRows : List OpRow :=
  [ ⟨"CRC8", 0x01#8, 0x01000000000000#56, 0xFFFFFFFFFF0000#56⟩,
    ⟨"VALIDATE", 0x02#8, 0x02000000000000#56, 0xFFFFFFFF000000#56⟩,
    ⟨"ENC.PUP", 0x10#8, 0x10000000000000#56, 0xFFFFFFFFFFFFFF#56⟩,
    ⟨"ENC.PDN", 0x11#8, 0x11000000000000#56, 0xFFFFFFFFFFFFFF#56⟩,
    ⟨"ENC.MEAS", 0x12#8, 0x12000000000000#56, 0xFFFFFFFFFFFFFF#56⟩,
    ⟨"DECODE", 0x20#8, 0x20000000000000#56, 0xFF000000000000#56⟩ ]
  ++ [ ⟨"CVT.TC", 0x30#8, 0x30000000000000#56, 0xFFFFFFFFFF0000#56⟩,
    ⟨"CVT.TF", 0x31#8, 0x31000000000000#56, 0xFFFFFFFFFF0000#56⟩,
    ⟨"CVT.RH", 0x32#8, 0x32000000000000#56, 0xFFFFFFFFFF0000#56⟩,
    ⟨"CVTX.TC", 0x38#8, 0x38000000000000#56, 0xFFFFFFFFFF0000#56⟩,
    ⟨"CVTX.TF", 0x39#8, 0x39000000000000#56, 0xFFFFFFFFFF0000#56⟩,
    ⟨"CVTX.RH", 0x3A#8, 0x3A000000000000#56, 0xFFFFFFFFFF0000#56⟩ ]

/-- R53: the `OP` field, bits 55:48, is one of the twelve operation codes. -/
def opListed (w : ReqWord) : Bool := opcodeRows.any fun r => r.op == w.extractLsb' 48 8

/-- R54: no must-be-zero bit of the format that the word's `OP` chooses is set (said of the words whose `OP` is listed). -/
def mbzClear (w : ReqWord) : Bool :=
  opcodeRows.all fun r => r.op != w.extractLsb' 48 8 || r.selects w

/-- A request word is a legal encoding (R53, R54). -/
def legalRequest (w : ReqWord) : Bool := opListed w && mbzClear w

/-- The host's length assertion before DECODE (R106, R179): exactly six bytes. -/
def frameLengthOk (bytes : List Byte) : Bool := bytes.length == 6

end Sys2Proof
end

