-- ==== Sys2Proof/Decode.lean ====
section
/-! DEFINITION. The decoder of R59, total on every 56-bit word and rejecting by name, and the encoder written from the
formats of R47 and the operation codes of R52. -/

namespace Sys2Proof

/-- Why a request word is no legal encoding. CVC does not tell the two apart in its answer (R177). -/
inductive DecodeReject where
  /-- R53: the `OP` value is not in R52. -/
  | reservedOp (op : Byte)
  /-- R54: a must-be-zero bit of the format is 1. -/
  | mbzSet (op : Byte)
  deriving DecidableEq, Repr

/-- `OP = REQ[55:48]` (R46). -/
def opField (w : ReqWord) : Byte := w.extractLsb' 48 8

/-- `ARG = REQ[47:0]` (R46). -/
def argField (w : ReqWord) : BitVec 48 := w.extractLsb' 0 48

/-- `CODE = ARG[15:0]` (R48). -/
def codeField (arg : BitVec 48) : Code := arg.extractLsb' 0 16

/-- `VALUE = ARG[23:8]` (R48). -/
def valueField (arg : BitVec 48) : Code := arg.extractLsb' 8 16

/-- `EXPECTED = ARG[7:0]` (R48). -/
def expectedField (arg : BitVec 48) : Byte := arg.extractLsb' 0 8

/-- `Bi = ARG[47-8i : 40-8i]` for i = 0 to 5 (R48). -/
def frameByteField (arg : BitVec 48) (i : Fin 6) : Byte := arg.extractLsb' (40 - 8 * i.val) 8

/-- Format N (R47): no operand, all of `ARG` must be zero. -/
def decodeN (op : Byte) (arg : BitVec 48) (i : Instr) : Except DecodeReject Instr :=
  if arg = 0#48 then .ok i else .error (.mbzSet op)

/-- Format R (R47): `ARG[47:16]` must be zero. -/
def decodeR (op : Byte) (arg : BitVec 48) (i : Code → Instr) : Except DecodeReject Instr :=
  if arg.extractLsb' 16 32 = 0#32 then .ok (i (codeField arg)) else .error (.mbzSet op)

/-- Format V (R47): `ARG[47:24]` must be zero. -/
def decodeV (op : Byte) (arg : BitVec 48) (i : Code → Byte → Instr) : Except DecodeReject Instr :=
  if arg.extractLsb' 24 24 = 0#24 then .ok (i (valueField arg) (expectedField arg)) else .error (.mbzSet op)

/-- Format F (R47): six bytes, no must-be-zero bit. -/
def decodeF (arg : BitVec 48) : Instr :=
  .decode (frameByteField arg 0) (frameByteField arg 1) (frameByteField arg 2)
    (frameByteField arg 3) (frameByteField arg 4) (frameByteField arg 5)

/-- The decoder (R59). -/
def decode (w : ReqWord) : Except DecodeReject Instr :=
  let op := opField w
  let arg := argField w
  match op with
  | 0x01#8 => decodeR op arg .crc8
  | 0x02#8 => decodeV op arg .validate
  | 0x10#8 => decodeN op arg .encPup
  | 0x11#8 => decodeN op arg .encPdn
  | 0x12#8 => decodeN op arg .encMeas
  | 0x20#8 => .ok (decodeF arg)
  | 0x30#8 => decodeR op arg .cvtTc
  | 0x31#8 => decodeR op arg .cvtTf
  | 0x32#8 => decodeR op arg .cvtRh
  | 0x38#8 => decodeR op arg .cvtxTc
  | 0x39#8 => decodeR op arg .cvtxTf
  | 0x3A#8 => decodeR op arg .cvtxRh
  | _ => .error (.reservedOp op)

/-- A format R word (R46, R47): `OP`, 32 zero bits, `CODE`. -/
def encodeR (op : Byte) (code : Code) : ReqWord := op ++ (0#32 ++ code)

/-- The encoder: the one request word that asks for the operation (R46, R47, R52). -/
def encode : Instr → ReqWord
  | .crc8 c => encodeR 0x01#8 c
  | .validate v e => 0x02#8 ++ (0#24 ++ (v ++ e))
  | .encPup => 0x10#8 ++ 0#48
  | .encPdn => 0x11#8 ++ 0#48
  | .encMeas => 0x12#8 ++ 0#48
  | .decode b0 b1 b2 b3 b4 b5 => 0x20#8 ++ (b0 ++ (b1 ++ (b2 ++ (b3 ++ (b4 ++ b5)))))
  | .cvtTc c => encodeR 0x30#8 c
  | .cvtTf c => encodeR 0x31#8 c
  | .cvtRh c => encodeR 0x32#8 c
  | .cvtxTc c => encodeR 0x38#8 c
  | .cvtxTf c => encodeR 0x39#8 c
  | .cvtxRh c => encodeR 0x3A#8 c

/-- The request word that spec/opcode_table.json's number `w` of `nbits` bits stands for: the table numbers the bits of the
one 56-bit word from its least significant bit, as the spec does (00_scope.md section 5.1). -/
def tableWord (nbits w : Nat) : ReqWord := BitVec.ofNat 56 (w % 2 ^ nbits)

/-- What the decoder reads from an opcode-table word. -/
def decodeTableWord (nbits w : Nat) : Option Instr :=
  match decode (tableWord nbits w) with
  | .ok i => some i
  | .error _ => none

end Sys2Proof
end

