-- ==== Sys2Proof/Machine/State.lean ====
section
/-! DEFINITION. The state of the machine: CVC with its handshake (R22, R23), the working values of the checksum machine
(R16), the Orchestrator (R150, R165), what has been observed so far (R212) and what the outside world does next. CVC has no
memory, registers, program counter, flags or modes (R11 to R15, R30, R184), so State holds none. -/

namespace Sys2Proof.Machine

/-- Why the machine stops. There is no constructor: the spec gives every request word an answer (R59) and no step of CVC or
of the Orchestrator stops (R150 "no terminal state", R182), so no meaning raises a fault. Safe. -/
inductive Fault where
  deriving DecidableEq, Repr

/-- Why an instruction has no meaning. -/
inductive Refusal where
  /-- Raised by an arm of `exec` whose instruction has no meaning yet. No arm does so now. Safe. -/
  | notModelled (mnemonic : String)
  deriving DecidableEq, Repr

/-- The working values of the checksum machine (R16, R73): accumulator, byte selector, iteration counter 0 to 8. -/
structure Validator where
  acc : Byte
  sel : ByteSel
  iter : Fin 9
  deriving DecidableEq, Repr

/-- What CVC's input pins hold at one clock edge (R22), and whether CVC finishes its operation at this edge: the latency is
finite and otherwise unspecified (R23, D4), so `done` is a free input (log 7). -/
structure Pins where
  rst : Bool
  reqValid : Bool
  req : ReqWord
  rspReady : Bool
  done : Bool
  deriving DecidableEq, Repr

/-- What the Orchestrator's next line depends on besides the state: what the environment answers, and what the spec leaves to
the host. The line takes from it what it needs. Every field is a free input (U5, U7, U10, R165). -/
structure EnvAnswer where
  /-- A Transport call succeeded (U7). -/
  ok : Bool
  /-- The bytes a successful read returned: any bytes, any number of them (U10, R179). -/
  bytes : List Byte
  /-- How much longer than SETTLE_MIN the host sleeps (R205). -/
  extra : Duration
  /-- The host makes this one conversion with the fixed-point operation (R165: `CVT.TC` "or CVTX.TC", `CVT.RH` "or CVTX.RH";
  log 17). -/
  fixed : Bool
  /-- The host converts the humidity first: the two conversions come "in either order" (R45; log 32). -/
  humidFirst : Bool
  /-- The host takes this command frame from its own constants and does not ask CVC for it (R165; log 31). -/
  ownFrame : Bool
  deriving DecidableEq, Repr

/-- What happens next outside CVC (log 1, log 2). -/
inductive Input where
  /-- The host issues a request word, legal or not, and takes the response (R25). -/
  | request (w : ReqWord)
  /-- One clock edge (R22, R23, R200). -/
  | edge (p : Pins)
  /-- The Orchestrator executes its next line (R165). -/
  | host (a : EnvAnswer)
  deriving DecidableEq, Repr

/-- A Physical Reading as the host reports it (R149): both `DATA` words, and for each whether a fixed-point operation gave
it. -/
structure Reading where
  tempFixed : Bool
  humidFixed : Bool
  temp : Data
  humid : Data
  deriving DecidableEq, Repr

/-- The outcomes the host reports (R149, R179). The errors are bare names (N21). -/
inductive Report where
  | physicalReading (r : Reading)
  | checksumError
  | transportError
  | decodeError
  deriving DecidableEq, Repr

/-- What the host does outside CVC, with its arguments and the Transport's answer (R146 to R149, R212). -/
inductive HostEvent where
  /-- `write(address, bytes, timeout)` (R146) and whether it succeeded. -/
  | wrote (address : Byte) (bytes : List Byte) (timeout : Duration) (ok : Bool)
  /-- `write_then_read(address, cmd, response_len, timeout)` (R147) and the bytes, or none for a `TransportError`. -/
  | wroteRead (address : Byte) (cmd : List Byte) (len : Nat) (timeout : Duration) (result : Option (List Byte))
  /-- `sleep(duration)` (R148). -/
  | slept (d : Duration)
  /-- A report (R149). -/
  | reported (r : Report)
  deriving DecidableEq, Repr

/-- The states of the Orchestrator (R150). -/
inductive OrchState where
  | idle
  | poweredUp
  | measuring
  | poweredDown
  deriving DecidableEq, Repr

/-- The lines of the cycle program of R165, each with the local values the program holds there. -/
inductive Point where
  /-- `cvc(ENC.PUP)`, or the host's own constant. -/
  | askPup
  /-- `write(0x70, PowerUp frame, TIMEOUT)`. -/
  | sendPup (cmd : Code)
  /-- `report(TransportError)` after a failed PowerUp (R157 row 1). -/
  | reportPupFail
  /-- `sleep(d_settle)`. -/
  | settle
  /-- `cvc(ENC.MEAS)`, or the host's own constant. -/
  | askMeas
  /-- `write_then_read(0x70, Measure frame, 6, TIMEOUT)`. -/
  | sendMeas (cmd : Code)
  /-- `report(TransportError)` after a failed Measure (R157 row 2). -/
  | reportMeasFail
  /-- The length assertion and `cvc(DECODE …)`. -/
  | haveBytes (bytes : List Byte)
  /-- `report(ChecksumError)` (R156). -/
  | reportChecksum
  /-- The first of the two conversions, of either quantity (R45, R165). -/
  | convert (rawTemp rawHumid : Code)
  /-- `cvc(CVT.RH …)` or `cvc(CVTX.RH …)`, after the temperature. -/
  | askHumid (tempFixed : Bool) (temp : Data) (rawHumid : Code)
  /-- `cvc(CVT.TC …)` or `cvc(CVTX.TC …)`, after the humidity. -/
  | askTemp (humidFixed : Bool) (humid : Data) (rawTemp : Code)
  /-- `report(PhysicalReading(t, h))`. -/
  | reportReading (r : Reading)
  /-- `cvc(ENC.PDN)`, or the host's own constant; the label `down`. -/
  | askPdn
  /-- `write(0x70, PowerDown frame, TIMEOUT)`. -/
  | sendPdn (cmd : Code)
  /-- `report(TransportError)` after a failed PowerDown (R157 row 3). -/
  | reportPdnFail
  /-- `sleep(CYCLE_DELAY)`, the label `rest`; whether this cycle's PowerUp write had succeeded. -/
  | rest (powerUpOk : Bool)
  deriving DecidableEq, Repr

/-- The machine. -/
structure State where
  /-- The OPEN parameters of R7; no step writes them. -/
  params : Params
  /-- Port `req_ready` (R22, R23). -/
  reqReady : Bool
  /-- `busy` (R23). -/
  busy : Bool
  /-- Port `rsp_valid` (R22, R23). -/
  rspValid : Bool
  /-- The request word of the operation in progress (R23; log 5). -/
  held : ReqWord
  /-- The latch `pending`, port `rsp` (R22, R23). -/
  pending : RspWord
  /-- The working values of the checksum machine (R16). -/
  validator : Validator
  /-- Where the Orchestrator stands (R150, R165). -/
  point : Point
  /-- What happens next outside CVC: the model's own field (log 1, log 2). -/
  inputs : List Input
  /-- The responses delivered so far, oldest first (R212; log 20). -/
  responses : List RspWord
  /-- What the host has done so far, oldest first (R212; log 20). -/
  trace : List HostEvent
  /-- How many times values unspecified after reset were drawn: the model's own field (log 4). -/
  draws : Nat
  deriving DecidableEq, Repr

/-- The working values of the checksum machine after a reset: unspecified (R27), so drawn (log 4). -/
def Validator.drawn (n : Nat) : Validator := ⟨Config.freeAcc n, Config.freeSel n, Config.freeIter n⟩

/-- The machine right after reset (R27, R155, R200, R201). -/
def State.reset : State where
  params := Config.build
  reqReady := true
  busy := false
  rspValid := false
  held := Config.freeHeld 0
  pending := Config.freePending 0
  validator := Validator.drawn 0
  point := .askPup
  inputs := []
  responses := []
  trace := []
  draws := 1

end Sys2Proof.Machine
end

