-- ==== Sys2Proof/Machine/Operands.lean ====
section
/-! DEFINITION. How operands are assembled from bytes and taken apart into them (00_scope.md section 5.1, R48), and the
fields of a response word (R49). -/

namespace Sys2Proof.Machine

/-- `hi8(v) = v[15:8]`. -/
def hi8 (v : Code) : Byte := v.extractLsb' 8 8

/-- `lo8(v) = v[7:0]`. -/
def lo8 (v : Code) : Byte := v.extractLsb' 0 8

/-- `be16(b0, b1) = {b0, b1}`: most significant byte first (R34). -/
def be16 (b0 b1 : Byte) : Code := b0 ++ b1

/-- `STATUS = RSP[71:64]` (R49). -/
def statusField (r : RspWord) : Byte := r.extractLsb' 64 8

/-- `DATA = RSP[63:0]` (R49). -/
def dataField (r : RspWord) : Data := r.extractLsb' 0 64

/-- `DATA[15:0]`: a command word (R51), or the raw humidity of a DECODE. -/
def dataLo16 (d : Data) : Code := d.extractLsb' 0 16

/-- `DATA[31:16]`: the raw temperature of a DECODE (R51). -/
def dataHi16 (d : Data) : Code := d.extractLsb' 16 16

/-- A command word as the two bytes of a command frame, first wire byte first (R34, R36, R90). -/
def wireBytes (cmd : Code) : List Byte := [hi8 cmd, lo8 cmd]

/-- The DECODE request of a byte sequence of exactly six bytes; no other sequence has one (R106, R179). -/
def frameRequest : List Byte → Option Instr
  | [b0, b1, b2, b3, b4, b5] => some (.decode b0 b1 b2 b3 b4 b5)
  | _ => none

end Sys2Proof.Machine
end

