-- ==== Sys2Proof/Machine/Flags.lean ====
section
/-! DEFINITION. The `STATUS` byte of a response (R50, R176, R177). CVC has no flag register (R14): these bits exist in the
one response that carries them. -/

namespace Sys2Proof.Machine

/-- The errors CVC raises (R175). -/
inductive Error where
  /-- `Illegal` (R177): the request word is no legal encoding. -/
  | illegal
  /-- `ChecksumError(t_bad, h_bad)` (R176): DECODE, at least one field failed. -/
  | checksum (tBad hBad : Bool)
  deriving DecidableEq, Repr

/-- A `bool` placed in a bit of a byte (00_scope.md section 5.1). -/
def boolBit (b : Bool) : Byte := if b then 1#8 else 0#8

/-- STATUS of a success (R50). -/
def statusOk : Byte := 0x00#8

/-- STATUS of an error: `0x01` (R177), or `0x02 | (t_bad << 2) | (h_bad << 3)` (R176). -/
def Error.status : Error → Byte
  | .illegal => 0x01#8
  | .checksum tBad hBad => 0x02#8 ||| (boolBit tBad <<< 2) ||| (boolBit hBad <<< 3)

/-- STATUS bit 0 (R50). -/
def statusIllegal (st : Byte) : Bool := st.getLsbD 0

/-- STATUS bit 1, CKERR (R50). -/
def statusCkerr (st : Byte) : Bool := st.getLsbD 1

/-- STATUS bit 2, T_BAD (R50). -/
def statusTBad (st : Byte) : Bool := st.getLsbD 2

/-- STATUS bit 3, H_BAD (R50). -/
def statusHBad (st : Byte) : Bool := st.getLsbD 3

end Sys2Proof.Machine
end

