-- ==== Sys2Proof/Machine/Ops.lean ====
section
/-! DEFINITION. The operations on State that everything else is written with: ending an operation with a response, raising
an error, the handshake's accept and deliver, reset, and the Orchestrator's bookkeeping. -/

namespace Sys2Proof.Machine

/-- The answer of one step of this machine. -/
abbrev Result := Host.Outcome State Fault Refusal

/-- `respond(STATUS, DATA)` (00_scope.md section 5.3, R23, R49): `pending` takes the response word and is presented. -/
def State.respond (status : Byte) (data : Data) (s : State) : State :=
  { s with pending := status ++ data, rspValid := true }

/-- TAKING AN EXCEPTION, the one shared operation (R176, R177, R182): an error is the response that reports it, with
`DATA = 0`. Nothing is saved, no mode changes and control goes nowhere, so there is no return operation either (R183). -/
def State.raise (e : Error) (s : State) : State := s.respond e.status 0#64

/-- The checksum machine's working values are now `m` (R16). -/
def State.withValidator (m : Validator) (s : State) : State := { s with validator := m }

/-- A request is accepted (R23): `busy` rises, `req_ready` falls, and the word is held for the operation. -/
def State.accept (w : ReqWord) (s : State) : State := { s with held := w, busy := true, reqReady := false }

/-- The presented response is delivered (R23): the host has it, and CVC is idle again. -/
def State.deliver (s : State) : State :=
  { s with responses := s.responses ++ [s.pending], busy := false, rspValid := false, reqReady := true }

/-- A clock edge with `rst = 1` (R200 to R202): the handshake is cleared and an operation in progress is dropped without a
response. The values R27 calls unspecified are drawn anew (log 4). The Orchestrator is not touched (R202). -/
def State.resetEdge (s : State) : State :=
  { s with
    busy := false, rspValid := false, reqReady := false
    pending := Config.freePending s.draws, held := Config.freeHeld s.draws
    validator := Validator.drawn s.draws, draws := s.draws + 1 }

/-- `req_ready` rises at the first edge with `rst = 0` after a reset (R200; log 6). -/
def State.raiseReady (s : State) : State := { s with reqReady := true }

/-- CVC is idle and can accept a request (R23). -/
def State.idle (s : State) : Bool := s.reqReady && !s.busy

/-- What is left of the inputs after the first was used. -/
def State.withInputs (l : List Input) (s : State) : State := { s with inputs := l }

/-- The Orchestrator goes on to a line of its program (R165). -/
def State.goto (p : Point) (s : State) : State := { s with point := p }

/-- A call, sleep or report of the host takes place (R212). -/
def State.log (e : HostEvent) (s : State) : State := { s with trace := s.trace ++ [e] }

end Sys2Proof.Machine
end

