-- ==== Sys2Proof/Machine/Converter.lean ====
section
/-! DEFINITION. The Unit Converter (43_unit_converter.md): the floating-point operations CVT.TC, CVT.TF, CVT.RH in the format
FPFMT, operation by operation in the written order (R117), and the fixed-point operations CVTX.TC, CVTX.TF, CVTX.RH. -/

namespace Sys2Proof.Machine

/-- `fdiv(fcvt(CODE), 65535.0)`, the `q` of R119 and R121. -/
def codeFraction (f : FpFormat) (code : Code) : Fp := fdiv f (fcvt f code.toNat) (fcvt f 65535)

/-- The `tc` of R119: `fadd(-45.0, fmul(175.0, q))`. -/
def celsius (f : FpFormat) (code : Code) : Fp :=
  fadd f (fcvt f (-45)) (fmul f (fcvt f 175) (codeFraction f code))

/-- The `tf` of R120: `fadd(fdiv(fmul(tc, 9.0), 5.0), 32.0)`, left to right (D15; log 12). -/
def fahrenheit (f : FpFormat) (code : Code) : Fp :=
  fadd f (fdiv f (fmul f (celsius f code) (fcvt f 9)) (fcvt f 5)) (fcvt f 32)

/-- The `rh` of R121: `fmul(100.0, q)`. -/
def humidity (f : FpFormat) (code : Code) : Fp := fmul f (fcvt f 100) (codeFraction f code)

/-- CVT.TC (R119). -/
def execCvtTc (code : Code) (s : State) : Result :=
  .next (s.respond statusOk (fbits s.params.fpfmt (celsius s.params.fpfmt code)))

/-- CVT.TF (R120). -/
def execCvtTf (code : Code) (s : State) : Result :=
  .next (s.respond statusOk (fbits s.params.fpfmt (fahrenheit s.params.fpfmt code)))

/-- CVT.RH (R121). -/
def execCvtRh (code : Code) (s : State) : Result :=
  .next (s.respond statusOk (fbits s.params.fpfmt (humidity s.params.fpfmt code)))

/-- `floor((k * CODE * 65536) / 65535)` (R125 to R128): all integers unbounded, the dividend not negative. -/
def scaleCode (k : Nat) (code : Code) : Int := ((k * code.toNat * 65536 / 65535 : Nat) : Int)

/-- The `n` of R125; 2949120 = 45 * 65536. -/
def celsiusFixed (code : Code) : Int := scaleCode 175 code - 2949120

/-- The `n` of R126; 3211264 = 49 * 65536. -/
def fahrenheitFixed (code : Code) : Int := scaleCode 315 code - 3211264

/-- The `n` of R127. -/
def humidityFixed (code : Code) : Int := scaleCode 100 code

/-- `zext_64(tc32(n))` (R51, R124). -/
def fixedData (n : Int) : Data := (BitVec.ofInt 32 n).setWidth 64

/-- CVTX.TC (R125). -/
def execCvtxTc (code : Code) (s : State) : Result := .next (s.respond statusOk (fixedData (celsiusFixed code)))

/-- CVTX.TF (R126). -/
def execCvtxTf (code : Code) (s : State) : Result := .next (s.respond statusOk (fixedData (fahrenheitFixed code)))

/-- CVTX.RH (R127). -/
def execCvtxRh (code : Code) (s : State) : Result := .next (s.respond statusOk (fixedData (humidityFixed code)))

end Sys2Proof.Machine
end

