-- ==== Sys2Proof/Machine/Validator.lean ====
section
/-! DEFINITION. The Checksum Validator (40_checksum_validator.md): the checksum, the bit-serial machine that computes it, and
the operations CRC8 and VALIDATE. -/

namespace Sys2Proof.Machine

/-- POLY, "polynomial 0x31" (R7, R70). -/
def crcPoly : Byte := 0x31#8

/-- INIT, "initial value 0xFF" (R7, R70). -/
def crcInit : Byte := 0xFF#8

/-- One iteration of R71: the test is made on the value before the shift, and the bit shifted out is lost. -/
def crcShift (a : Byte) : Byte := if a.getLsbD 7 then (a <<< 1) ^^^ crcPoly else a <<< 1

/-- `step8` (R71): eight iterations. -/
def step8 (a : Byte) : Byte := Nat.iterate crcShift 8 a

/-- `crc8` (R72): the high byte first, then the low byte, no final XOR. -/
def crc8 (v : Code) : Byte := step8 (step8 (crcInit ^^^ hi8 v) ^^^ lo8 v)

/-- `start(v)` of the bit-serial machine (R73). -/
def serialStart (v : Code) : Validator := ⟨crcInit ^^^ hi8 v, .hi, 0⟩

/-- The guard of `finish` (R73): the low byte is done. -/
def serialFinished (m : Validator) : Bool := m.sel == .lo && m.iter == 8

/-- The one enabled step of the bit-serial machine before it is finished (R73): `shift` while the counter is below 8, then
`next byte` after the high byte. -/
def serialStep (v : Code) (m : Validator) : Validator :=
  if m.iter < 8 then { m with acc := crcShift m.acc, iter := m.iter + 1 }
  else
    match m.sel with
    | .hi => ⟨m.acc ^^^ lo8 v, .lo, 0⟩
    | .lo => m

/-- The working values at `finish` (R73), with the checksum in the accumulator. -/
def serialEnd (v : Code) : Validator := ⟨crc8 v, .lo, 8⟩

/-- One checksum computation, as it leaves the working values (R16; log 8). -/
def State.computeChecksum (v : Code) (s : State) : State := s.withValidator (serialEnd v)

/-- CRC8 (R74). -/
def execCrc8 (code : Code) (s : State) : Result :=
  .next ((s.computeChecksum code).respond statusOk ((crc8 code).setWidth 64))

/-- VALIDATE (R75): a mismatch is a result, not an error (R50). -/
def execValidate (value : Code) (expected : Byte) (s : State) : Result :=
  .next ((s.computeChecksum value).respond statusOk (if crc8 value = expected then 1#64 else 0#64))

end Sys2Proof.Machine
end

