-- ==== Sys2Proof/Machine/Decoder.lean ====
section
/-! DEFINITION. The Measurement Decoder (42_measurement_decoder.md): the operation DECODE. -/

namespace Sys2Proof.Machine

/-- DECODE (R102): both fields are always validated (R104), and a failure of either releases neither value (R105). -/
def execDecode (b0 b1 b2 b3 b4 b5 : Byte) (s : State) : Result :=
  let rawTemp := be16 b0 b1
  let rawHumid := be16 b3 b4
  let tBad := crc8 rawTemp != b2
  let hBad := crc8 rawHumid != b5
  let t := (s.computeChecksum rawTemp).computeChecksum rawHumid
  .next
    (if tBad || hBad then t.raise (.checksum tBad hBad)
     else t.respond statusOk (0#32 ++ (rawTemp ++ rawHumid)))

end Sys2Proof.Machine
end

