-- ==== Sys2Proof/Machine/Encoder.lean ====
section
/-! DEFINITION. The Command Encoder (41_command_encoder.md): three constants and the operations that return them. -/

namespace Sys2Proof.Machine

/-- OPC_POWER_UP (R7, R90). -/
def powerUpWord : Code := 0x3517#16

/-- OPC_POWER_DOWN (R7, R90). -/
def powerDownWord : Code := 0xB098#16

/-- OPC_MEASURE (R7, R90). -/
def measureWord : Code := 0x7CA2#16

/-- ENC.PUP (R91). -/
def execEncPup (s : State) : Result := .next (s.respond statusOk (powerUpWord.setWidth 64))

/-- ENC.PDN (R92). -/
def execEncPdn (s : State) : Result := .next (s.respond statusOk (powerDownWord.setWidth 64))

/-- ENC.MEAS (R93). -/
def execEncMeas (s : State) : Result := .next (s.respond statusOk (measureWord.setWidth 64))

end Sys2Proof.Machine
end

