-- ==== Sys2Proof/Machine/Dispatch.lean ====
section
/-! DEFINITION. From an operation to its meaning (R59), one arm per constructor of `Instr`. -/

namespace Sys2Proof.Machine

/-- What CVC does with one legal request (R59): the operation, ended by its one `respond`. -/
def exec (i : Instr) (s : State) : Host.Outcome State Fault Refusal :=
  match i with
  | .crc8 code => Sys2Proof.Machine.execCrc8 code s
  | .validate value expected => Sys2Proof.Machine.execValidate value expected s
  | .encPup => Sys2Proof.Machine.execEncPup s
  | .encPdn => Sys2Proof.Machine.execEncPdn s
  | .encMeas => Sys2Proof.Machine.execEncMeas s
  | .decode b0 b1 b2 b3 b4 b5 => Sys2Proof.Machine.execDecode b0 b1 b2 b3 b4 b5 s
  | .cvtTc code => Sys2Proof.Machine.execCvtTc code s
  | .cvtTf code => Sys2Proof.Machine.execCvtTf code s
  | .cvtRh code => Sys2Proof.Machine.execCvtRh code s
  | .cvtxTc code => Sys2Proof.Machine.execCvtxTc code s
  | .cvtxTf code => Sys2Proof.Machine.execCvtxTf code s
  | .cvtxRh code => Sys2Proof.Machine.execCvtxRh code s

end Sys2Proof.Machine
end

