-- ==== Sys2Proof/Machine/Handshake.lean ====
section
/-! DEFINITION. CVC at its ports, one clock edge at a time (R22, R23, R200 to R202), and the transaction R25 makes of an
accepted request and its response. -/

namespace Sys2Proof.Machine

/-- `pending <- exec(req)` for the accepted request (R23, R59): the operation its word asks for, or `raise Illegal()` before
any operation is performed (R177; log 9). -/
def complete (s : State) : Result :=
  match decode s.held with
  | .ok i => exec i s
  | .error _ => .next (s.raise .illegal)

/-- One clock edge (R23, R200). Reset takes precedence over everything (R181). A busy CVC finishes when `done` says so and
then holds its response until the host takes it; an idle one accepts a request, and may finish it at the same edge ("zero or
more" edges later); one just out of reset raises `req_ready` (log 6). -/
def clockEdge (p : Pins) (s : State) : Result :=
  if p.rst then .next s.resetEdge
  else if s.busy then
    if s.rspValid then .next (if p.rspReady then s.deliver else s)
    else if p.done then complete s
    else .next s
  else if s.reqReady then
    if p.reqValid then
      if p.done then complete (s.accept p.req) else .next (s.accept p.req)
    else .next s
  else .next s.raiseReady

/-- The clock edges of a run, one after another. -/
def clockEdges : List Pins → State → Result
  | [], s => .next s
  | p :: ps, s =>
    match clockEdge p s with
    | .next t => clockEdges ps t
    | .fault r => .fault r
    | .refused r => .refused r

/-- R25: accept, execute and deliver one request as one atomic step. -/
def transact (w : ReqWord) (s : State) : Result :=
  match complete (s.accept w) with
  | .next t => .next t.deliver
  | .fault r => .fault r
  | .refused r => .refused r

/-- The pins while a host that has a request to issue waits for CVC to become idle (R206; log 18): it takes the response of
the operation before, and presents nothing of its own. -/
def waitPins : Pins := { rst := false, reqValid := false, req := 0#56, rspReady := true, done := true }

/-- One edge of that wait: the hazard of R206 "cannot be violated, only waited out". -/
def waitOut (s : State) : Result := clockEdge waitPins s

end Sys2Proof.Machine
end

