-- ==== Sys2Proof/Machine/Orchestrator.lean ====
section
/-! DEFINITION. The Session Orchestrator (44_session_orchestrator.md): the cycle program of R165, one line a step, over CVC
and the capabilities Transport, Timing and Reporting. -/

namespace Sys2Proof.Machine

/-- BUS_ADDR, the sensor's 7-bit address (R7, R32). -/
def busAddress : Byte := 0x70#8

/-- FRAME_LEN (R7): the `response_len` of the Measure call. -/
def frameLen : Nat := 6

/-- The Orchestrator state of R150 that a line of the program belongs to (95_test_vectors.md section 9; log 14). -/
def Point.orchState : Point → OrchState
  | .askPup | .sendPup _ | .reportPupFail => .idle
  | .settle | .askMeas | .sendMeas _ => .poweredUp
  | .reportMeasFail | .haveBytes _ | .reportChecksum | .convert _ _ | .askHumid _ _ _ | .askTemp _ _ _
  | .reportReading _ | .askPdn | .sendPdn _ => .measuring
  | .reportPdnFail => .poweredDown
  | .rest powerUpOk => if powerUpOk then .poweredDown else .idle

/-- Whether the PowerUp write of the current cycle has succeeded (R21, R157). -/
def Point.powerUpOk : Point → Bool
  | .askPup | .sendPup _ | .reportPupFail => false
  | .settle | .askMeas | .sendMeas _ | .reportMeasFail | .haveBytes _ | .reportChecksum | .convert _ _
  | .askHumid _ _ _ | .askTemp _ _ _ | .reportReading _ | .askPdn | .sendPdn _ | .reportPdnFail => true
  | .rest powerUpOk => powerUpOk

/-- The line issues a request to CVC, so it needs CVC idle (R206); a line that takes a command frame from the host's own
constants issues none (R165; log 31). -/
def Point.usesCvc (a : EnvAnswer) : Point → Bool
  | .askPup | .askMeas | .askPdn => !a.ownFrame
  | .convert _ _ | .askHumid _ _ _ | .askTemp _ _ _ => true
  | .haveBytes bytes => frameLengthOk bytes
  | .sendPup _ | .reportPupFail | .settle | .sendMeas _ | .reportMeasFail | .reportChecksum | .reportReading _
  | .sendPdn _ | .reportPdnFail | .rest _ => false

/-- `(s, d) <- cvc(request)` of R165: one request is issued, and its STATUS and DATA decide what follows. -/
def cvc (i : Instr) (s : State) (next : Byte → Data → Point) : Result :=
  match transact (encode i) s with
  | .next t => .next (t.goto (next (statusField t.pending) (dataField t.pending)))
  | .fault r => .fault r
  | .refused r => .refused r

/-- `write(0x70, frame, TIMEOUT)` (R146) and where the program goes on success and on failure. -/
def write (cmd : Code) (ok : Bool) (onOk onFail : Point) (s : State) : State :=
  (s.log (.wrote busAddress (wireBytes cmd) s.params.timeout ok)).goto (if ok then onOk else onFail)

/-- `report(r)` (R149). -/
def report (r : Report) (next : Point) (s : State) : State := (s.log (.reported r)).goto next

/-- The temperature conversion of R165: `CVT.TC`, or `CVTX.TC`. -/
def temperatureRequest (fixed : Bool) (raw : Code) : Instr := if fixed then .cvtxTc raw else .cvtTc raw

/-- The humidity conversion of R165: `CVT.RH`, or `CVTX.RH`. -/
def humidityRequest (fixed : Bool) (raw : Code) : Instr := if fixed then .cvtxRh raw else .cvtRh raw

/-- `r <- write_then_read(0x70, frame, 6, TIMEOUT)` (R147): any bytes on success (U10), none on failure. -/
def measure (cmd : Code) (a : EnvAnswer) (s : State) : State :=
  let result := if a.ok then some a.bytes else none
  (s.log (.wroteRead busAddress (wireBytes cmd) frameLen s.params.timeout result)).goto
    (if a.ok then .haveBytes a.bytes else .reportMeasFail)

/-- The command word of the next frame (R165): what CVC answers to the operation, or the host's own copy of R90's constant,
which "a host need not ask CVC for" (log 31). -/
def obtainFrame (i : Instr) (word : Code) (a : EnvAnswer) (s : State) (next : Code → Point) : Result :=
  if a.ownFrame then .next (s.goto (next word)) else cvc i s fun _ d => next (dataLo16 d)

/-- One line of the program of R165. `a` is what the environment answers and what the host chooses. -/
def hostStep (a : EnvAnswer) (s : State) : Result :=
  match s.point with
  | .askPup => obtainFrame .encPup powerUpWord a s .sendPup
  | .sendPup cmd => .next (write cmd a.ok .settle .reportPupFail s)
  | .reportPupFail => .next (report .transportError (.rest false) s)
  | .settle => .next ((s.log (.slept (s.params.settleMin + a.extra))).goto .askMeas)
  | .askMeas => obtainFrame .encMeas measureWord a s .sendMeas
  | .sendMeas cmd => .next (measure cmd a s)
  | .reportMeasFail => .next (report .transportError .askPdn s)
  | .haveBytes bytes =>
    match frameRequest bytes with
    | none => .next (report .decodeError .askPdn s)
    | some i =>
      cvc i s fun st d => if st = statusOk then .convert (dataHi16 d) (dataLo16 d) else .reportChecksum
  | .reportChecksum => .next (report .checksumError .askPdn s)
  | .convert rawTemp rawHumid =>
    if a.humidFirst then cvc (humidityRequest a.fixed rawHumid) s fun _ d => .askTemp a.fixed d rawTemp
    else cvc (temperatureRequest a.fixed rawTemp) s fun _ d => .askHumid a.fixed d rawHumid
  | .askHumid tempFixed temp rawHumid =>
    cvc (humidityRequest a.fixed rawHumid) s fun _ d => .reportReading ⟨tempFixed, a.fixed, temp, d⟩
  | .askTemp humidFixed humid rawTemp =>
    cvc (temperatureRequest a.fixed rawTemp) s fun _ d => .reportReading ⟨a.fixed, humidFixed, d, humid⟩
  | .reportReading r => .next (report (.physicalReading r) .askPdn s)
  | .askPdn => obtainFrame .encPdn powerDownWord a s .sendPdn
  | .sendPdn cmd => .next (write cmd a.ok (.rest true) .reportPdnFail s)
  | .reportPdnFail => .next (report .transportError (.rest true) s)
  | .rest _ => .next ((s.log (.slept s.params.cycleDelay)).goto .askPup)

end Sys2Proof.Machine
end

