-- ==== Sys2Proof/Machine/Agents.lean ====
section
/-! DEFINITION. Which agent moves (R10): the first of the inputs says so (log 2). -/

namespace Sys2Proof.Machine

/-- One step of the whole machine. A request word, or a line of the Orchestrator that issues one, needs CVC idle; while an
operation of before is outstanding, or CVC is just out of reset, the step is one edge of the wait and the input stays
(R24, R206; log 18). With no input nothing happens (R10 "otherwise idle"; log 21). -/
def advance (s : State) : Result :=
  match s.inputs with
  | [] => .next s
  | .request w :: rest => if s.idle then transact w (s.withInputs rest) else waitOut s
  | .edge p :: rest => clockEdge p (s.withInputs rest)
  | .host a :: rest =>
    if s.idle || !s.point.usesCvc a then hostStep a (s.withInputs rest) else waitOut s

/-- A request placed where the next step takes it: at the head of the inputs, with CVC idle (log 1). -/
def State.placeRequest (w : ReqWord) (s : State) : State :=
  { s with inputs := .request w :: s.inputs, busy := false, rspValid := false, reqReady := true }

end Sys2Proof.Machine
end

