-- ==== Sys2Proof/Machine/Step.lean ====
section
/-! DEFINITION. One step of the machine, and where it takes its next request from. -/

namespace Sys2Proof.Machine

/-- One step: the agent whose turn it is moves. -/
def step (s : State) : Host.Outcome State Fault Refusal := advance s

/-- `s` with the opcode-table word `w` as the request its next step takes (log 1). -/
def State.withFetchWord (s : State) (nbits w : Nat) : State := s.placeRequest (tableWord nbits w)

end Sys2Proof.Machine
end

