-- ==== Sys2Proof/Machine/Contracts.lean ====
section
/-! DEFINITION. The source's four contracts as functions on its value types (R19, R45): `validate`, `encode`, `decode` and
`to_physical`; and the pure function from a request word to its response word that R9 and R59 call `exec : u56 -> u72`. They
are what the operations implement; no meaning is defined from them. -/

namespace Sys2Proof.Machine

/-- Raw Reading (R19): two 16-bit values, each with its checksum byte as received. -/
structure RawReading where
  temp : Code
  tempSum : Byte
  humid : Code
  humidSum : Byte
  deriving DecidableEq, Repr

/-- Validated Measurement (R19, R20). -/
structure ValidatedMeasurement where
  temp : Code
  humid : Code
  deriving DecidableEq, Repr

/-- Physical Reading (R19): degrees Celsius and percent relative humidity. -/
structure PhysicalReading where
  temp : Fp
  humid : Fp
  deriving DecidableEq, Repr

/-- Command Frame (R19): two bytes, the first to be sent first. -/
structure CommandFrame where
  first : Byte
  second : Byte
  deriving DecidableEq, Repr

/-- The command set of the encoder's contract: exactly three elements (R90, R95). -/
inductive Command where
  | powerUp
  | powerDown
  | measure
  deriving DecidableEq, Repr

/-- `ChecksumError`, without a payload (R176). -/
inductive ChecksumError where
  | checksumError
  deriving DecidableEq, Repr

/-- `validate(value, expected)` (R70). -/
def validateContract (value : Code) (expected : Byte) : Bool := crc8 value == expected

/-- The command word of a command (R90). -/
def Command.word : Command → Code
  | .powerUp => powerUpWord
  | .powerDown => powerDownWord
  | .measure => measureWord

/-- The operation of a command (R45, R95). -/
def Command.request : Command → Instr
  | .powerUp => .encPup
  | .powerDown => .encPdn
  | .measure => .encMeas

/-- `encode(command)` (R90): "emitted as two bytes, most-significant byte first". -/
def encodeContract (c : Command) : CommandFrame := ⟨hi8 c.word, lo8 c.word⟩

/-- `decode(bytes)` (R100, R101): both fields are required to pass. -/
def decodeContract (r : RawReading) : Except ChecksumError ValidatedMeasurement :=
  if validateContract r.temp r.tempSum && validateContract r.humid r.humidSum
  then .ok ⟨r.temp, r.humid⟩
  else .error .checksumError

/-- The frame a Raw Reading travels in (R31, R100), as the request that decodes it. -/
def RawReading.request (r : RawReading) : Instr :=
  .decode (hi8 r.temp) (lo8 r.temp) r.tempSum (hi8 r.humid) (lo8 r.humid) r.humidSum

/-- `to_physical(m)` (R115), in the given format. -/
def toPhysical (f : FpFormat) (m : ValidatedMeasurement) : PhysicalReading :=
  ⟨celsius f m.temp, humidity f m.humid⟩

/-- The response word of an operation (R51, R102, R119 to R127) in the format FPFMT: no state is looked at (R9, R13). -/
def answerOf (f : FpFormat) : Instr → RspWord
  | .crc8 c => statusOk ++ (crc8 c).setWidth 64
  | .validate v e => statusOk ++ (if validateContract v e then 1#64 else 0#64)
  | .encPup => statusOk ++ (Command.word .powerUp).setWidth 64
  | .encPdn => statusOk ++ (Command.word .powerDown).setWidth 64
  | .encMeas => statusOk ++ (Command.word .measure).setWidth 64
  | .decode b0 b1 b2 b3 b4 b5 =>
    match decodeContract ⟨be16 b0 b1, b2, be16 b3 b4, b5⟩ with
    | .ok m => statusOk ++ (0#32 ++ (m.temp ++ m.humid))
    | .error _ =>
      (Error.checksum (!validateContract (be16 b0 b1) b2) (!validateContract (be16 b3 b4) b5)).status ++ 0#64
  | .cvtTc c => statusOk ++ fbits f (celsius f c)
  | .cvtTf c => statusOk ++ fbits f (fahrenheit f c)
  | .cvtRh c => statusOk ++ fbits f (humidity f c)
  | .cvtxTc c => statusOk ++ fixedData (celsiusFixed c)
  | .cvtxTf c => statusOk ++ fixedData (fahrenheitFixed c)
  | .cvtxRh c => statusOk ++ fixedData (humidityFixed c)

/-- `exec : u56 -> u72` of R59, total on every request word. -/
def answer (f : FpFormat) (w : ReqWord) : RspWord :=
  match decode w with
  | .ok i => answerOf f i
  | .error _ => Error.illegal.status ++ 0#64

end Sys2Proof.Machine
end

