-- ==== Sys2Proof/Machine/Text.lean ====
section
/-! DEFINITION. The textual syntax of R57: a request as a line of text, and the request word of a line. Lines are lists of
characters. -/

namespace Sys2Proof.Machine

/-- The hexadecimal digits. -/
def hexChars : List Char :=
  ['0', '1', '2', '3', '4', '5', '6', '7', '8', '9', 'A', 'B', 'C', 'D', 'E', 'F']

/-- `v` in `digits` hexadecimal digits. -/
def hexText : Nat → Nat → List Char
  | 0, _ => []
  | digits + 1, v => hexText digits (v / 16) ++ [hexChars.getD (v % 16) '0']

/-- A number with its `0x`. -/
def numberText (digits v : Nat) : List Char := '0' :: 'x' :: hexText digits v

/-- The value of a hexadecimal digit is its place among the digits of R57, in capitals or not (log 25). -/
def hexValue (c : Char) : Option Nat := hexChars.findIdx? fun digit => digit == c.toUpper

/-- The value of a string of hexadecimal digits, `acc` being what stood before it. -/
def hexNumber (acc : Nat) : List Char → Option Nat
  | [] => some acc
  | c :: cs =>
    match hexValue c with
    | some d => hexNumber (16 * acc + d) cs
    | none => none

/-- A number below `2 ^ width`, written `0x` and at least one digit (R57). -/
def parseNumber (width : Nat) : List Char → Option (BitVec width)
  | '0' :: 'x' :: c :: cs =>
    match hexNumber 0 (c :: cs) with
    | some v => if v < 2 ^ width then some (BitVec.ofNat width v) else none
    | none => none
  | _ => none

/-- A byte of DECODE: two hexadecimal digits (R57). -/
def parseByte : List Char → Option Byte
  | [c, d] => (hexNumber 0 [c, d]).map (BitVec.ofNat 8)
  | _ => none

/-- The words of a line: spaces separate them, a comma is a word, `;` starts a comment. -/
def lineWords (word : List Char) : List Char → List (List Char)
  | [] => if word.isEmpty then [] else [word]
  | c :: cs =>
    let before := if word.isEmpty then [] else [word]
    if c = ';' then before
    else if c = ',' then before ++ [','] :: lineWords [] cs
    else if c = ' ' then before ++ lineWords [] cs
    else lineWords (word ++ [c]) cs

/-- What a line of text is. -/
inductive AsmLine where
  /-- Nothing but spaces and a comment. -/
  | blank
  /-- One request (R57). -/
  | request (w : ReqWord)
  /-- No line of R57. -/
  | malformed
  deriving DecidableEq, Repr

/-- The line of an operation, if its operands could be read. -/
def AsmLine.ofInstr : Option Instr → AsmLine
  | some i => .request (encode i)
  | none => .malformed

/-- The operand of a format R line. -/
def codeOperand (i : Code → Instr) : List (List Char) → Option Instr
  | [a] => (parseNumber 16 a).map i
  | _ => none

/-- The operands of a line, after its mnemonic (R57). -/
def operandsOf (name : List Char) (args : List (List Char)) : Option Instr :=
  if name = "CRC8".toList then codeOperand .crc8 args
  else if name = "VALIDATE".toList then
    match args with
    | [a, [','], b] => (parseNumber 16 a).bind fun v => (parseNumber 8 b).map (Instr.validate v)
    | _ => none
  else if name = "ENC.PUP".toList then (if args.isEmpty then some .encPup else none)
  else if name = "ENC.PDN".toList then (if args.isEmpty then some .encPdn else none)
  else if name = "ENC.MEAS".toList then (if args.isEmpty then some .encMeas else none)
  else if name = "DECODE".toList then
    match args.map parseByte with
    | [some b0, some b1, some b2, some b3, some b4, some b5] => some (.decode b0 b1 b2 b3 b4 b5)
    | _ => none
  else if name = "CVT.TC".toList then codeOperand .cvtTc args
  else if name = "CVT.TF".toList then codeOperand .cvtTf args
  else if name = "CVT.RH".toList then codeOperand .cvtRh args
  else if name = "CVTX.TC".toList then codeOperand .cvtxTc args
  else if name = "CVTX.TF".toList then codeOperand .cvtxTf args
  else if name = "CVTX.RH".toList then codeOperand .cvtxRh args
  else none

/-- One line of text (R57): the mnemonic form spells legal requests only, `.word` any request word. -/
def assembleLine (line : List Char) : AsmLine :=
  match lineWords [] line with
  | [] => .blank
  | name :: args =>
    if name = ".word".toList then
      match args with
      | [a] =>
        match parseNumber 56 a with
        | some w => .request w
        | none => .malformed
      | _ => .malformed
    else .ofInstr (operandsOf name args)

/-- A request as R57 writes it. -/
def requestText (i : Instr) : List Char :=
  match i with
  | .crc8 c | .cvtTc c | .cvtTf c | .cvtRh c | .cvtxTc c | .cvtxTf c | .cvtxRh c =>
    i.mnemonic.toList ++ ' ' :: numberText 4 c.toNat
  | .validate v e => i.mnemonic.toList ++ ' ' :: numberText 4 v.toNat ++ ',' :: ' ' :: numberText 2 e.toNat
  | .encPup | .encPdn | .encMeas => i.mnemonic.toList
  | .decode b0 b1 b2 b3 b4 b5 =>
    i.mnemonic.toList ++ ' ' :: hexText 2 b0.toNat ++ ' ' :: hexText 2 b1.toNat ++ ' ' :: hexText 2 b2.toNat
      ++ ' ' :: hexText 2 b3.toNat ++ ' ' :: hexText 2 b4.toNat ++ ' ' :: hexText 2 b5.toNat

/-- A raw request word as R57 writes it. -/
def wordText (w : ReqWord) : List Char := ".word".toList ++ ' ' :: numberText 14 w.toNat

/-- The request words of a program, one request a line (95_test_vectors.md section 8). -/
def assemble : List (List Char) → Option (List ReqWord)
  | [] => some []
  | line :: lines =>
    match assembleLine line with
    | .blank => assemble lines
    | .request w => (assemble lines).map (w :: ·)
    | .malformed => none

/-- A program is the sequence of requests a host issues (R3, R212): they are the next inputs (log 1). -/
def State.load (program : List ReqWord) (s : State) : State := s.withInputs (program.map .request ++ s.inputs)

end Sys2Proof.Machine
end

