-- ==== Sys2Proof/Safety.lean ====
section
/-! DEFINITION. The terms claims use: legal responses (R50, R51), the order of a cycle as an observer of the host sees it
(R151 to R158, R164), the invariant of the machine, the exact values of the converter's formulas (R116) and the reading of a
floating-point pattern (R117). -/

namespace Sys2Proof.Machine

/-! ### Responses -/

/-- "The only values `STATUS` ever takes" (R50). -/
def legalStatus (st : Byte) : Prop :=
  st = 0x00#8 ∨ st = 0x01#8 ∨ st = 0x06#8 ∨ st = 0x0A#8 ∨ st = 0x0E#8

/-- A response word that R50 and R51 allow: a listed STATUS, and `DATA = 0` whenever it is not success. -/
def legalResponse (r : RspWord) : Prop :=
  legalStatus (statusField r) ∧ (statusField r ≠ 0x00#8 → dataField r = 0#64)

/-- A run in which the host built no bad request word: no response delivered so far has ILLEGAL set (U1). -/
def State.noIllegal (s : State) : Prop := ∀ r ∈ s.responses, statusIllegal (statusField r) = false

/-! ### The order of a cycle -/

/-- How far the current cycle has come, as far as the calls, sleeps and reports of the host show. -/
inductive Phase where
  /-- A cycle begins: PowerUp is to be sent (R151). -/
  | ready
  /-- The PowerUp write failed (R157 row 1). -/
  | powerUpFailed
  /-- The sensor was powered up; the settle time is to pass (R152). -/
  | poweredUp
  /-- The settle time has passed; Measure is to be sent (R152). -/
  | settled
  /-- The Measure call failed (R157 row 2). -/
  | measureFailed
  /-- The bytes have been read; the outcome is to be reported (R153). -/
  | measured (bytes : List Byte)
  /-- The outcome was reported; PowerDown is to be sent (R153). -/
  | powerDownDue
  /-- The PowerDown write failed (R157 row 3). -/
  | powerDownFailed
  /-- Only the inter-cycle delay is left (R154). -/
  | resting
  deriving DecidableEq, Repr

/-- The `DATA` word of a temperature conversion in one of the two families (R165). -/
def temperatureData (f : FpFormat) (fixed : Bool) (code : Code) : Data :=
  if fixed then fixedData (celsiusFixed code) else fbits f (celsius f code)

/-- The `DATA` word of a humidity conversion in one of the two families (R165). -/
def humidityData (f : FpFormat) (fixed : Bool) (code : Code) : Data :=
  if fixed then fixedData (humidityFixed code) else fbits f (humidity f code)

/-- The report a cycle may make of the bytes it read (R149, R153, R179): the decode error when they are not six,
`ChecksumError` when a field fails, else both converted values, each in either family of operations (log 17). -/
def reportAllowed (f : FpFormat) (bytes : List Byte) (r : Report) : Prop :=
  match bytes with
  | [b0, b1, b2, b3, b4, b5] =>
    if crc8 (be16 b0 b1) = b2 ∧ crc8 (be16 b3 b4) = b5 then
      ∃ tempFixed humidFixed : Bool,
        r = .physicalReading ⟨tempFixed, humidFixed, temperatureData f tempFixed (be16 b0 b1),
          humidityData f humidFixed (be16 b3 b4)⟩
    else r = .checksumError
  | _ => r = .decodeError

/-- One observed event moves a cycle on: the order and the arguments that R151 to R154, R157 and R164 prescribe. -/
inductive Phase.Moves (p : Params) : Phase → HostEvent → Phase → Prop where
  | powerUp : Moves p .ready (.wrote 0x70#8 [0x35#8, 0x17#8] p.timeout true) .poweredUp
  | powerUpFails : Moves p .ready (.wrote 0x70#8 [0x35#8, 0x17#8] p.timeout false) .powerUpFailed
  | reportPowerUpFailure : Moves p .powerUpFailed (.reported .transportError) .resting
  | settle (d : Duration) (h : p.settleMin ≤ d) : Moves p .poweredUp (.slept d) .settled
  | measure (bytes : List Byte) :
      Moves p .settled (.wroteRead 0x70#8 [0x7C#8, 0xA2#8] 6 p.timeout (some bytes)) (.measured bytes)
  | measureFails : Moves p .settled (.wroteRead 0x70#8 [0x7C#8, 0xA2#8] 6 p.timeout none) .measureFailed
  | reportMeasureFailure : Moves p .measureFailed (.reported .transportError) .powerDownDue
  | reportOutcome (bytes : List Byte) (r : Report) (h : reportAllowed p.fpfmt bytes r) :
      Moves p (.measured bytes) (.reported r) .powerDownDue
  | powerDown : Moves p .powerDownDue (.wrote 0x70#8 [0xB0#8, 0x98#8] p.timeout true) .resting
  | powerDownFails : Moves p .powerDownDue (.wrote 0x70#8 [0xB0#8, 0x98#8] p.timeout false) .powerDownFailed
  | reportPowerDownFailure : Moves p .powerDownFailed (.reported .transportError) .resting
  | rest : Moves p .resting (.slept p.cycleDelay) .ready

/-- The trace so far leads from the beginning of a cycle to a phase: whole cycles, then part of one. -/
inductive CycleTrace (p : Params) : List HostEvent → Phase → Prop where
  | start : CycleTrace p [] .ready
  | snoc {l : List HostEvent} {ph ph' : Phase} {e : HostEvent} (h : CycleTrace p l ph) (m : Phase.Moves p ph e ph') :
      CycleTrace p (l ++ [e]) ph'

/-- The six bytes are a frame whose two fields pass, with these raw codes (R103). -/
def goodFrame (bytes : List Byte) (rawTemp rawHumid : Code) : Prop :=
  ∃ b0 b1 b2 b3 b4 b5 : Byte, bytes = [b0, b1, b2, b3, b4, b5] ∧ rawTemp = be16 b0 b1 ∧ rawHumid = be16 b3 b4 ∧
    crc8 rawTemp = b2 ∧ crc8 rawHumid = b5

/-- Where the Orchestrator stands agrees with what has been observed of the cycle, and the values its program holds there
come from the bytes it read. -/
def Point.Agrees (p : Params) : Point → Phase → Prop
  | .askPup, ph => ph = .ready
  | .sendPup cmd, ph => ph = .ready ∧ cmd = 0x3517#16
  | .reportPupFail, ph => ph = .powerUpFailed
  | .settle, ph => ph = .poweredUp
  | .askMeas, ph => ph = .settled
  | .sendMeas cmd, ph => ph = .settled ∧ cmd = 0x7CA2#16
  | .reportMeasFail, ph => ph = .measureFailed
  | .haveBytes bytes, ph => ph = .measured bytes
  | .reportChecksum, ph => ∃ bytes, ph = .measured bytes ∧ reportAllowed p.fpfmt bytes .checksumError
  | .convert rawTemp rawHumid, ph => ∃ bytes, ph = .measured bytes ∧ goodFrame bytes rawTemp rawHumid
  | .askHumid tempFixed temp rawHumid, ph =>
    ∃ bytes rawTemp, ph = .measured bytes ∧ goodFrame bytes rawTemp rawHumid ∧
      temp = temperatureData p.fpfmt tempFixed rawTemp
  | .askTemp humidFixed humid rawTemp, ph =>
    ∃ bytes rawHumid, ph = .measured bytes ∧ goodFrame bytes rawTemp rawHumid ∧
      humid = humidityData p.fpfmt humidFixed rawHumid
  | .reportReading r, ph => ∃ bytes, ph = .measured bytes ∧ reportAllowed p.fpfmt bytes (.physicalReading r)
  | .askPdn, ph => ph = .powerDownDue
  | .sendPdn cmd, ph => ph = .powerDownDue ∧ cmd = 0xB098#16
  | .reportPdnFail, ph => ph = .powerDownFailed
  | .rest _, ph => ph = .resting

/-- The host owes the sensor a PowerDown: its PowerUp write succeeded and no PowerDown was attempted since (R158). -/
def Point.owesPowerDown : Point → Bool
  | .settle | .askMeas | .sendMeas _ | .reportMeasFail | .haveBytes _ | .reportChecksum | .convert _ _
  | .askHumid _ _ _ | .askTemp _ _ _ | .reportReading _ | .askPdn | .sendPdn _ => true
  | .askPup | .sendPup _ | .reportPupFail | .reportPdnFail | .rest _ => false

/-- The requests a line that obtains a command frame issues: the operation, or none if the host has its own constant (R165;
log 31). -/
def EnvAnswer.frameRequests (a : EnvAnswer) (i : Instr) : List Instr := if a.ownFrame then [] else [i]

/-- A PowerUp write that succeeded. -/
def HostEvent.powersUp : HostEvent → Bool
  | .wrote _ bytes _ ok => bytes == [0x35#8, 0x17#8] && ok
  | _ => false

/-- A PowerDown write that was attempted, whether or not it succeeded. -/
def HostEvent.attemptsPowerDown : HostEvent → Bool
  | .wrote _ bytes _ _ => bytes == [0xB0#8, 0x98#8]
  | _ => false

/-- The attempt that begins a cycle: a PowerUp write, whether or not it succeeded. -/
def HostEvent.beginsCycle : HostEvent → Bool
  | .wrote _ bytes _ _ => bytes == [0x35#8, 0x17#8]
  | _ => false

/-- A PowerDown write that failed. -/
def HostEvent.failsPowerDown : HostEvent → Bool
  | .wrote _ bytes _ ok => bytes == [0xB0#8, 0x98#8] && !ok
  | _ => false

/-- A report. -/
def HostEvent.isReport : HostEvent → Bool
  | .reported _ => true
  | _ => false

/-- The event that takes the Orchestrator from one of its named states to the next (R150 to R154). That a Measure call or a
PowerDown write moves it also when it fails is the model's choice (log 14). -/
inductive OrchState.Moves (p : Params) : OrchState → HostEvent → OrchState → Prop where
  | powerUp : Moves p .idle (.wrote 0x70#8 [0x35#8, 0x17#8] p.timeout true) .poweredUp
  | measure (result : Option (List Byte)) :
      Moves p .poweredUp (.wroteRead 0x70#8 [0x7C#8, 0xA2#8] 6 p.timeout result) .measuring
  | powerDown (ok : Bool) : Moves p .measuring (.wrote 0x70#8 [0xB0#8, 0x98#8] p.timeout ok) .poweredDown
  | rest : Moves p .poweredDown (.slept p.cycleDelay) .idle

/-- Reports the host still owes for what has already happened in the cycle (R149, R157, R190). -/
def Point.reportsDue : Point → Nat
  | .reportPupFail | .settle | .askMeas | .sendMeas _ | .reportMeasFail | .haveBytes _ | .reportChecksum | .convert _ _
  | .askHumid _ _ _ | .askTemp _ _ _ | .reportReading _ | .reportPdnFail => 1
  | .askPup | .sendPup _ | .askPdn | .sendPdn _ | .rest _ => 0

/-! ### The invariant -/

/-- What holds of the machine after reset and after every step. -/
structure State.Inv (s : State) : Prop where
  /-- A response is presented only for an operation in progress (R23). -/
  validWhileBusy : s.rspValid = true → s.busy = true
  /-- A busy CVC accepts nothing: at most one operation is outstanding (R23, R24). -/
  busyNotReady : s.busy = true → s.reqReady = false
  /-- The response presented is the answer to the request that was accepted (R23, R25). -/
  pendingAnswers : s.rspValid = true → s.pending = answer s.params.fpfmt s.held
  /-- Every response delivered is one that R50 and R51 allow. -/
  responsesLegal : ∀ r ∈ s.responses, legalResponse r
  /-- The host's calls, sleeps and reports follow the cycle (R150 to R158, R164), and its program is where they say. -/
  cycle : ∃ ph : Phase, CycleTrace s.params s.trace ph ∧ s.point.Agrees s.params ph

/-! ### Checksums -/

/-- The table of R80, row by row. -/
def crcTable : List Byte :=
  [ 0x00, 0x31, 0x62, 0x53, 0xC4, 0xF5, 0xA6, 0x97, 0xB9, 0x88, 0xDB, 0xEA, 0x7D, 0x4C, 0x1F, 0x2E,
    0x43, 0x72, 0x21, 0x10, 0x87, 0xB6, 0xE5, 0xD4, 0xFA, 0xCB, 0x98, 0xA9, 0x3E, 0x0F, 0x5C, 0x6D,
    0x86, 0xB7, 0xE4, 0xD5, 0x42, 0x73, 0x20, 0x11, 0x3F, 0x0E, 0x5D, 0x6C, 0xFB, 0xCA, 0x99, 0xA8,
    0xC5, 0xF4, 0xA7, 0x96, 0x01, 0x30, 0x63, 0x52, 0x7C, 0x4D, 0x1E, 0x2F, 0xB8, 0x89, 0xDA, 0xEB ]
  ++ [ 0x3D, 0x0C, 0x5F, 0x6E, 0xF9, 0xC8, 0x9B, 0xAA, 0x84, 0xB5, 0xE6, 0xD7, 0x40, 0x71, 0x22, 0x13,
    0x7E, 0x4F, 0x1C, 0x2D, 0xBA, 0x8B, 0xD8, 0xE9, 0xC7, 0xF6, 0xA5, 0x94, 0x03, 0x32, 0x61, 0x50,
    0xBB, 0x8A, 0xD9, 0xE8, 0x7F, 0x4E, 0x1D, 0x2C, 0x02, 0x33, 0x60, 0x51, 0xC6, 0xF7, 0xA4, 0x95,
    0xF8, 0xC9, 0x9A, 0xAB, 0x3C, 0x0D, 0x5E, 0x6F, 0x41, 0x70, 0x23, 0x12, 0x85, 0xB4, 0xE7, 0xD6 ]
  ++ [ 0x7A, 0x4B, 0x18, 0x29, 0xBE, 0x8F, 0xDC, 0xED, 0xC3, 0xF2, 0xA1, 0x90, 0x07, 0x36, 0x65, 0x54,
    0x39, 0x08, 0x5B, 0x6A, 0xFD, 0xCC, 0x9F, 0xAE, 0x80, 0xB1, 0xE2, 0xD3, 0x44, 0x75, 0x26, 0x17,
    0xFC, 0xCD, 0x9E, 0xAF, 0x38, 0x09, 0x5A, 0x6B, 0x45, 0x74, 0x27, 0x16, 0x81, 0xB0, 0xE3, 0xD2,
    0xBF, 0x8E, 0xDD, 0xEC, 0x7B, 0x4A, 0x19, 0x28, 0x06, 0x37, 0x64, 0x55, 0xC2, 0xF3, 0xA0, 0x91 ]
  ++ [ 0x47, 0x76, 0x25, 0x14, 0x83, 0xB2, 0xE1, 0xD0, 0xFE, 0xCF, 0x9C, 0xAD, 0x3A, 0x0B, 0x58, 0x69,
    0x04, 0x35, 0x66, 0x57, 0xC0, 0xF1, 0xA2, 0x93, 0xBD, 0x8C, 0xDF, 0xEE, 0x79, 0x48, 0x1B, 0x2A,
    0xC1, 0xF0, 0xA3, 0x92, 0x05, 0x34, 0x67, 0x56, 0x78, 0x49, 0x1A, 0x2B, 0xBC, 0x8D, 0xDE, 0xEF,
    0x82, 0xB3, 0xE0, 0xD1, 0x46, 0x77, 0x24, 0x15, 0x3B, 0x0A, 0x59, 0x68, 0xFF, 0xCE, 0x9D, 0xAC ]

/-- `L` of R82 on the single-bit values `1 << i`, i = 0 to 15. -/
def crcColumns : List Byte :=
  [ 0x31, 0x62, 0xC4, 0xB9, 0x43, 0x86, 0x3D, 0x7A, 0xF4, 0xD9, 0x83, 0x37, 0x6E, 0xDC, 0x89, 0x23 ]

/-- How many bits of a field error pattern (16 value bits, 8 checksum bits) are set. -/
def flippedBits (e : BitVec 24) : Nat := (List.range 24).countP fun i => e.getLsbD i

/-- One step of the division of a polynomial over GF(2) by `x^8 + x^5 + x^4 + 1` (0x131), written as bits: the term of degree
`i + 8` is cancelled if it is there (R83). -/
def cancelTerm (p : BitVec 24) (i : Nat) : BitVec 24 :=
  if p.getLsbD (i + 8) then p ^^^ (0x131#24 <<< i) else p

/-- The remainder of that division: the terms of degree 23 down to 8 are cancelled (R83). -/
def polyRemainder (p : BitVec 24) : Byte :=
  ([15, 14, 13, 12, 11, 10, 9, 8, 7, 6, 5, 4, 3, 2, 1, 0].foldl cancelTerm p).setWidth 8

/-! ### Exact values and floating-point patterns -/

/-- `TC_exact` (R116). -/
def tcExact (r : Nat) : ℚ := -45 + 175 * r / 65535

/-- `TF_exact` (R116). -/
def tfExact (r : Nat) : ℚ := tcExact r * 9 / 5 + 32

/-- `RH_exact` (R116). -/
def rhExact (r : Nat) : ℚ := 100 * r / 65535

/-- The number a floating-point value stands for. -/
def Fp.value (x : Fp) : ℚ := x.mant * (2 : ℚ) ^ x.exp

/-- A number the format can hold, its greatest exponent aside: an integer significand of at most `fpPrecision` bits, times a
power of two not below the last place of the subnormal numbers (R117). -/
def representable (f : FpFormat) (y : ℚ) : Prop :=
  ∃ (m : Int) (e : Int), m.natAbs < 2 ^ fpPrecision f ∧ fpMinExp f ≤ e ∧ y = m * (2 : ℚ) ^ e

/-- The exponent field of a pattern (R117, R122). -/
def exponentField (f : FpFormat) (b : Data) : Nat := b.toNat / 2 ^ fpFracBits f % 2 ^ fpExpBits f

/-- The fraction field of a pattern (R117, R122). -/
def fractionField (f : FpFormat) (b : Data) : Nat := b.toNat % 2 ^ fpFracBits f

/-- The sign bit of a pattern: bit 31 or bit 63 (R122). -/
def signBit (f : FpFormat) (b : Data) : Bool := b.getLsbD (fpExpBits f + fpFracBits f)

/-- The number that a pattern with an exponent field below the greatest stands for under IEEE 754 (R117). -/
def ieeeValue (f : FpFormat) (b : Data) : ℚ :=
  (if signBit f b then -1 else 1) *
    (if exponentField f b = 0 then (fractionField f b : ℚ) * (2 : ℚ) ^ fpMinExp f
     else ((2 ^ fpFracBits f + fractionField f b : Nat) : ℚ) * (2 : ℚ) ^ (fpMinExp f + (exponentField f b : Int) - 1))

/-- A pattern of a finite normal number, or of +0 (R123). -/
def normalOrPlusZero (f : FpFormat) (b : Data) : Prop :=
  b = 0#64 ∨ (0 < exponentField f b ∧ exponentField f b < 2 ^ fpExpBits f - 1)

/-- `x` is the exact result `q` rounded once to the format: to nearest, with ties to the even significand (R117). No number
of the format is nearer, and where another is as near, the significand of `x` is even. -/
def NearestEven (f : FpFormat) (q : ℚ) (x : Fp) : Prop :=
  representable f x.value ∧ (∀ y : ℚ, representable f y → |x.value - q| ≤ |y - q|) ∧
    ∀ y : ℚ, representable f y → y ≠ x.value → |y - q| = |x.value - q| → 2 ∣ x.mant

/-! ### Encodings of the operations -/

/-- What CVC does with an illegal request: the answer 0x01 with `DATA = 0`, and no operation (R177). -/
def AnsweredIllegal (w : ReqWord) : Prop :=
  ∀ s : State, transact w s = .next ((s.accept w).respond 0x01#8 0#64).deliver

/-- Encoding, operand and `Illegal` of a format R operation: `OP = op`, `ARG[47:16] = 0`, `CODE = ARG[15:0]` (R47, R54). -/
def FormatR (op : Byte) (i : Code → Instr) : Prop :=
  ∀ w : ReqWord, opField w = op →
    ((argField w).extractLsb' 16 32 = 0#32 → decode w = .ok (i ((argField w).extractLsb' 0 16))) ∧
    ((argField w).extractLsb' 16 32 ≠ 0#32 → AnsweredIllegal w)

/-- Encoding, operands and `Illegal` of a format V operation: `ARG[47:24] = 0`, `VALUE = ARG[23:8]`, `EXPECTED = ARG[7:0]`
(R47, R54). -/
def FormatV (op : Byte) (i : Code → Byte → Instr) : Prop :=
  ∀ w : ReqWord, opField w = op →
    ((argField w).extractLsb' 24 24 = 0#24 →
      decode w = .ok (i ((argField w).extractLsb' 8 16) ((argField w).extractLsb' 0 8))) ∧
    ((argField w).extractLsb' 24 24 ≠ 0#24 → AnsweredIllegal w)

/-- Encoding and `Illegal` of a format N operation: `ARG = 0` (R47, R54). -/
def FormatN (op : Byte) (i : Instr) : Prop :=
  ∀ w : ReqWord, opField w = op →
    (argField w = 0#48 → decode w = .ok i) ∧ (argField w ≠ 0#48 → AnsweredIllegal w)

/-- Encoding and operands of a format F operation: any `ARG`, `Bi = ARG[47-8i : 40-8i]` (R47, R48). -/
def FormatF (op : Byte) (i : Byte → Byte → Byte → Byte → Byte → Byte → Instr) : Prop :=
  ∀ w : ReqWord, opField w = op →
    decode w = .ok (i ((argField w).extractLsb' 40 8) ((argField w).extractLsb' 32 8) ((argField w).extractLsb' 24 8)
      ((argField w).extractLsb' 16 8) ((argField w).extractLsb' 8 8) ((argField w).extractLsb' 0 8))

/-- The 244 reserved `OP` values of R53. -/
def reservedOp (op : Byte) : Bool :=
  op == 0x00#8 || (0x03#8 ≤ op && op ≤ 0x0F#8) || (0x13#8 ≤ op && op ≤ 0x1F#8) || (0x21#8 ≤ op && op ≤ 0x2F#8)
    || (0x33#8 ≤ op && op ≤ 0x37#8) || 0x3B#8 ≤ op

/-! ### Schedules at the ports -/

/-- Clock edges from the acceptance of `w` to the delivery of its response, with any number of edges of computing and of
waiting for the host between (R23, R210): accept, compute, finish, hold, deliver. -/
structure Schedule where
  /-- Edges while CVC computes: no reset, not done. -/
  computing : List Pins
  /-- Edges while the response is held: no reset, the host not ready. -/
  holding : List Pins
  deriving DecidableEq, Repr

/-- The pins of a schedule say what its parts mean; `req_valid`, `req` and, while computing, `rsp_ready` are arbitrary. -/
def Schedule.ok (c : Schedule) : Prop :=
  (∀ p ∈ c.computing, p.rst = false ∧ p.done = false) ∧ (∀ p ∈ c.holding, p.rst = false ∧ p.rspReady = false)

/-- The edges of a schedule for the request `w`. -/
def Schedule.edges (c : Schedule) (w : ReqWord) : List Pins :=
  [⟨false, true, w, false, false⟩] ++ c.computing ++ [⟨false, false, 0#56, false, true⟩] ++ c.holding
    ++ [⟨false, false, 0#56, true, false⟩]

end Sys2Proof.Machine
end

