-- ==== Sys2Proof/Laws/State.lean ====
section
/-! SUPPORT. What each update of the state leaves in each field, so that no proof unfolds a record update. -/

namespace Sys2Proof.Machine

namespace State

@[simp] theorem respond_params (st : Byte) (d : Data) (s : State) : (s.respond st d).params = s.params := rfl
@[simp] theorem respond_reqReady (st : Byte) (d : Data) (s : State) : (s.respond st d).reqReady = s.reqReady := rfl
@[simp] theorem respond_busy (st : Byte) (d : Data) (s : State) : (s.respond st d).busy = s.busy := rfl
@[simp] theorem respond_rspValid (st : Byte) (d : Data) (s : State) : (s.respond st d).rspValid = true := rfl
@[simp] theorem respond_held (st : Byte) (d : Data) (s : State) : (s.respond st d).held = s.held := rfl
@[simp] theorem respond_pending (st : Byte) (d : Data) (s : State) : (s.respond st d).pending = st ++ d := rfl
@[simp] theorem respond_validator (st : Byte) (d : Data) (s : State) : (s.respond st d).validator = s.validator := rfl
@[simp] theorem respond_point (st : Byte) (d : Data) (s : State) : (s.respond st d).point = s.point := rfl
@[simp] theorem respond_inputs (st : Byte) (d : Data) (s : State) : (s.respond st d).inputs = s.inputs := rfl
@[simp] theorem respond_responses (st : Byte) (d : Data) (s : State) : (s.respond st d).responses = s.responses := rfl
@[simp] theorem respond_trace (st : Byte) (d : Data) (s : State) : (s.respond st d).trace = s.trace := rfl
@[simp] theorem respond_draws (st : Byte) (d : Data) (s : State) : (s.respond st d).draws = s.draws := rfl

@[simp] theorem raise_params (e : Error) (s : State) : (s.raise e).params = s.params := rfl
@[simp] theorem raise_reqReady (e : Error) (s : State) : (s.raise e).reqReady = s.reqReady := rfl
@[simp] theorem raise_busy (e : Error) (s : State) : (s.raise e).busy = s.busy := rfl
@[simp] theorem raise_rspValid (e : Error) (s : State) : (s.raise e).rspValid = true := rfl
@[simp] theorem raise_held (e : Error) (s : State) : (s.raise e).held = s.held := rfl
@[simp] theorem raise_pending (e : Error) (s : State) : (s.raise e).pending = e.status ++ 0#64 := rfl
@[simp] theorem raise_validator (e : Error) (s : State) : (s.raise e).validator = s.validator := rfl
@[simp] theorem raise_point (e : Error) (s : State) : (s.raise e).point = s.point := rfl
@[simp] theorem raise_inputs (e : Error) (s : State) : (s.raise e).inputs = s.inputs := rfl
@[simp] theorem raise_responses (e : Error) (s : State) : (s.raise e).responses = s.responses := rfl
@[simp] theorem raise_trace (e : Error) (s : State) : (s.raise e).trace = s.trace := rfl
@[simp] theorem raise_draws (e : Error) (s : State) : (s.raise e).draws = s.draws := rfl

@[simp] theorem withValidator_params (m : Validator) (s : State) : (s.withValidator m).params = s.params := rfl
@[simp] theorem withValidator_reqReady (m : Validator) (s : State) : (s.withValidator m).reqReady = s.reqReady := rfl
@[simp] theorem withValidator_busy (m : Validator) (s : State) : (s.withValidator m).busy = s.busy := rfl
@[simp] theorem withValidator_rspValid (m : Validator) (s : State) : (s.withValidator m).rspValid = s.rspValid := rfl
@[simp] theorem withValidator_held (m : Validator) (s : State) : (s.withValidator m).held = s.held := rfl
@[simp] theorem withValidator_pending (m : Validator) (s : State) : (s.withValidator m).pending = s.pending := rfl
@[simp] theorem withValidator_validator (m : Validator) (s : State) : (s.withValidator m).validator = m := rfl
@[simp] theorem withValidator_point (m : Validator) (s : State) : (s.withValidator m).point = s.point := rfl
@[simp] theorem withValidator_inputs (m : Validator) (s : State) : (s.withValidator m).inputs = s.inputs := rfl
@[simp] theorem withValidator_responses (m : Validator) (s : State) : (s.withValidator m).responses = s.responses := rfl
@[simp] theorem withValidator_trace (m : Validator) (s : State) : (s.withValidator m).trace = s.trace := rfl
@[simp] theorem withValidator_draws (m : Validator) (s : State) : (s.withValidator m).draws = s.draws := rfl

@[simp] theorem computeChecksum_params (v : Code) (s : State) : (s.computeChecksum v).params = s.params := rfl
@[simp] theorem computeChecksum_reqReady (v : Code) (s : State) : (s.computeChecksum v).reqReady = s.reqReady := rfl
@[simp] theorem computeChecksum_busy (v : Code) (s : State) : (s.computeChecksum v).busy = s.busy := rfl
@[simp] theorem computeChecksum_rspValid (v : Code) (s : State) : (s.computeChecksum v).rspValid = s.rspValid := rfl
@[simp] theorem computeChecksum_held (v : Code) (s : State) : (s.computeChecksum v).held = s.held := rfl
@[simp] theorem computeChecksum_pending (v : Code) (s : State) : (s.computeChecksum v).pending = s.pending := rfl
@[simp] theorem computeChecksum_validator (v : Code) (s : State) : (s.computeChecksum v).validator = serialEnd v := rfl
@[simp] theorem computeChecksum_point (v : Code) (s : State) : (s.computeChecksum v).point = s.point := rfl
@[simp] theorem computeChecksum_inputs (v : Code) (s : State) : (s.computeChecksum v).inputs = s.inputs := rfl
@[simp] theorem computeChecksum_responses (v : Code) (s : State) : (s.computeChecksum v).responses = s.responses := rfl
@[simp] theorem computeChecksum_trace (v : Code) (s : State) : (s.computeChecksum v).trace = s.trace := rfl
@[simp] theorem computeChecksum_draws (v : Code) (s : State) : (s.computeChecksum v).draws = s.draws := rfl

@[simp] theorem accept_params (w : ReqWord) (s : State) : (s.accept w).params = s.params := rfl
@[simp] theorem accept_reqReady (w : ReqWord) (s : State) : (s.accept w).reqReady = false := rfl
@[simp] theorem accept_busy (w : ReqWord) (s : State) : (s.accept w).busy = true := rfl
@[simp] theorem accept_rspValid (w : ReqWord) (s : State) : (s.accept w).rspValid = s.rspValid := rfl
@[simp] theorem accept_held (w : ReqWord) (s : State) : (s.accept w).held = w := rfl
@[simp] theorem accept_pending (w : ReqWord) (s : State) : (s.accept w).pending = s.pending := rfl
@[simp] theorem accept_validator (w : ReqWord) (s : State) : (s.accept w).validator = s.validator := rfl
@[simp] theorem accept_point (w : ReqWord) (s : State) : (s.accept w).point = s.point := rfl
@[simp] theorem accept_inputs (w : ReqWord) (s : State) : (s.accept w).inputs = s.inputs := rfl
@[simp] theorem accept_responses (w : ReqWord) (s : State) : (s.accept w).responses = s.responses := rfl
@[simp] theorem accept_trace (w : ReqWord) (s : State) : (s.accept w).trace = s.trace := rfl
@[simp] theorem accept_draws (w : ReqWord) (s : State) : (s.accept w).draws = s.draws := rfl

@[simp] theorem deliver_params (s : State) : s.deliver.params = s.params := rfl
@[simp] theorem deliver_reqReady (s : State) : s.deliver.reqReady = true := rfl
@[simp] theorem deliver_busy (s : State) : s.deliver.busy = false := rfl
@[simp] theorem deliver_rspValid (s : State) : s.deliver.rspValid = false := rfl
@[simp] theorem deliver_held (s : State) : s.deliver.held = s.held := rfl
@[simp] theorem deliver_pending (s : State) : s.deliver.pending = s.pending := rfl
@[simp] theorem deliver_validator (s : State) : s.deliver.validator = s.validator := rfl
@[simp] theorem deliver_point (s : State) : s.deliver.point = s.point := rfl
@[simp] theorem deliver_inputs (s : State) : s.deliver.inputs = s.inputs := rfl
@[simp] theorem deliver_responses (s : State) : s.deliver.responses = s.responses ++ [s.pending] := rfl
@[simp] theorem deliver_trace (s : State) : s.deliver.trace = s.trace := rfl
@[simp] theorem deliver_draws (s : State) : s.deliver.draws = s.draws := rfl

@[simp] theorem resetEdge_params (s : State) : s.resetEdge.params = s.params := rfl
@[simp] theorem resetEdge_reqReady (s : State) : s.resetEdge.reqReady = false := rfl
@[simp] theorem resetEdge_busy (s : State) : s.resetEdge.busy = false := rfl
@[simp] theorem resetEdge_rspValid (s : State) : s.resetEdge.rspValid = false := rfl
@[simp] theorem resetEdge_held (s : State) : s.resetEdge.held = Config.freeHeld s.draws := rfl
@[simp] theorem resetEdge_pending (s : State) : s.resetEdge.pending = Config.freePending s.draws := rfl
@[simp] theorem resetEdge_validator (s : State) : s.resetEdge.validator = Validator.drawn s.draws := rfl
@[simp] theorem resetEdge_point (s : State) : s.resetEdge.point = s.point := rfl
@[simp] theorem resetEdge_inputs (s : State) : s.resetEdge.inputs = s.inputs := rfl
@[simp] theorem resetEdge_responses (s : State) : s.resetEdge.responses = s.responses := rfl
@[simp] theorem resetEdge_trace (s : State) : s.resetEdge.trace = s.trace := rfl
@[simp] theorem resetEdge_draws (s : State) : s.resetEdge.draws = s.draws + 1 := rfl

@[simp] theorem raiseReady_params (s : State) : s.raiseReady.params = s.params := rfl
@[simp] theorem raiseReady_reqReady (s : State) : s.raiseReady.reqReady = true := rfl
@[simp] theorem raiseReady_busy (s : State) : s.raiseReady.busy = s.busy := rfl
@[simp] theorem raiseReady_rspValid (s : State) : s.raiseReady.rspValid = s.rspValid := rfl
@[simp] theorem raiseReady_held (s : State) : s.raiseReady.held = s.held := rfl
@[simp] theorem raiseReady_pending (s : State) : s.raiseReady.pending = s.pending := rfl
@[simp] theorem raiseReady_validator (s : State) : s.raiseReady.validator = s.validator := rfl
@[simp] theorem raiseReady_point (s : State) : s.raiseReady.point = s.point := rfl
@[simp] theorem raiseReady_inputs (s : State) : s.raiseReady.inputs = s.inputs := rfl
@[simp] theorem raiseReady_responses (s : State) : s.raiseReady.responses = s.responses := rfl
@[simp] theorem raiseReady_trace (s : State) : s.raiseReady.trace = s.trace := rfl
@[simp] theorem raiseReady_draws (s : State) : s.raiseReady.draws = s.draws := rfl

@[simp] theorem withInputs_params (l : List Input) (s : State) : (s.withInputs l).params = s.params := rfl
@[simp] theorem withInputs_reqReady (l : List Input) (s : State) : (s.withInputs l).reqReady = s.reqReady := rfl
@[simp] theorem withInputs_busy (l : List Input) (s : State) : (s.withInputs l).busy = s.busy := rfl
@[simp] theorem withInputs_rspValid (l : List Input) (s : State) : (s.withInputs l).rspValid = s.rspValid := rfl
@[simp] theorem withInputs_held (l : List Input) (s : State) : (s.withInputs l).held = s.held := rfl
@[simp] theorem withInputs_pending (l : List Input) (s : State) : (s.withInputs l).pending = s.pending := rfl
@[simp] theorem withInputs_validator (l : List Input) (s : State) : (s.withInputs l).validator = s.validator := rfl
@[simp] theorem withInputs_point (l : List Input) (s : State) : (s.withInputs l).point = s.point := rfl
@[simp] theorem withInputs_inputs (l : List Input) (s : State) : (s.withInputs l).inputs = l := rfl
@[simp] theorem withInputs_responses (l : List Input) (s : State) : (s.withInputs l).responses = s.responses := rfl
@[simp] theorem withInputs_trace (l : List Input) (s : State) : (s.withInputs l).trace = s.trace := rfl
@[simp] theorem withInputs_draws (l : List Input) (s : State) : (s.withInputs l).draws = s.draws := rfl

@[simp] theorem goto_params (p : Point) (s : State) : (s.goto p).params = s.params := rfl
@[simp] theorem goto_reqReady (p : Point) (s : State) : (s.goto p).reqReady = s.reqReady := rfl
@[simp] theorem goto_busy (p : Point) (s : State) : (s.goto p).busy = s.busy := rfl
@[simp] theorem goto_rspValid (p : Point) (s : State) : (s.goto p).rspValid = s.rspValid := rfl
@[simp] theorem goto_held (p : Point) (s : State) : (s.goto p).held = s.held := rfl
@[simp] theorem goto_pending (p : Point) (s : State) : (s.goto p).pending = s.pending := rfl
@[simp] theorem goto_validator (p : Point) (s : State) : (s.goto p).validator = s.validator := rfl
@[simp] theorem goto_point (p : Point) (s : State) : (s.goto p).point = p := rfl
@[simp] theorem goto_inputs (p : Point) (s : State) : (s.goto p).inputs = s.inputs := rfl
@[simp] theorem goto_responses (p : Point) (s : State) : (s.goto p).responses = s.responses := rfl
@[simp] theorem goto_trace (p : Point) (s : State) : (s.goto p).trace = s.trace := rfl
@[simp] theorem goto_draws (p : Point) (s : State) : (s.goto p).draws = s.draws := rfl

@[simp] theorem log_params (e : HostEvent) (s : State) : (s.log e).params = s.params := rfl
@[simp] theorem log_reqReady (e : HostEvent) (s : State) : (s.log e).reqReady = s.reqReady := rfl
@[simp] theorem log_busy (e : HostEvent) (s : State) : (s.log e).busy = s.busy := rfl
@[simp] theorem log_rspValid (e : HostEvent) (s : State) : (s.log e).rspValid = s.rspValid := rfl
@[simp] theorem log_held (e : HostEvent) (s : State) : (s.log e).held = s.held := rfl
@[simp] theorem log_pending (e : HostEvent) (s : State) : (s.log e).pending = s.pending := rfl
@[simp] theorem log_validator (e : HostEvent) (s : State) : (s.log e).validator = s.validator := rfl
@[simp] theorem log_point (e : HostEvent) (s : State) : (s.log e).point = s.point := rfl
@[simp] theorem log_inputs (e : HostEvent) (s : State) : (s.log e).inputs = s.inputs := rfl
@[simp] theorem log_responses (e : HostEvent) (s : State) : (s.log e).responses = s.responses := rfl
@[simp] theorem log_trace (e : HostEvent) (s : State) : (s.log e).trace = s.trace ++ [e] := rfl
@[simp] theorem log_draws (e : HostEvent) (s : State) : (s.log e).draws = s.draws := rfl

@[simp] theorem placeRequest_params (w : ReqWord) (s : State) : (s.placeRequest w).params = s.params := rfl
@[simp] theorem placeRequest_reqReady (w : ReqWord) (s : State) : (s.placeRequest w).reqReady = true := rfl
@[simp] theorem placeRequest_busy (w : ReqWord) (s : State) : (s.placeRequest w).busy = false := rfl
@[simp] theorem placeRequest_rspValid (w : ReqWord) (s : State) : (s.placeRequest w).rspValid = false := rfl
@[simp] theorem placeRequest_held (w : ReqWord) (s : State) : (s.placeRequest w).held = s.held := rfl
@[simp] theorem placeRequest_pending (w : ReqWord) (s : State) : (s.placeRequest w).pending = s.pending := rfl
@[simp] theorem placeRequest_validator (w : ReqWord) (s : State) : (s.placeRequest w).validator = s.validator := rfl
@[simp] theorem placeRequest_point (w : ReqWord) (s : State) : (s.placeRequest w).point = s.point := rfl
@[simp] theorem placeRequest_inputs (w : ReqWord) (s : State) : (s.placeRequest w).inputs = .request w :: s.inputs := rfl
@[simp] theorem placeRequest_responses (w : ReqWord) (s : State) : (s.placeRequest w).responses = s.responses := rfl
@[simp] theorem placeRequest_trace (w : ReqWord) (s : State) : (s.placeRequest w).trace = s.trace := rfl
@[simp] theorem placeRequest_draws (w : ReqWord) (s : State) : (s.placeRequest w).draws = s.draws := rfl

@[simp] theorem idle_deliver (s : State) : s.deliver.idle = true := rfl
@[simp] theorem idle_placeRequest (w : ReqWord) (s : State) : (s.placeRequest w).idle = true := rfl
@[simp] theorem idle_withInputs (l : List Input) (s : State) : (s.withInputs l).idle = s.idle := rfl
@[simp] theorem idle_goto (p : Point) (s : State) : (s.goto p).idle = s.idle := rfl
@[simp] theorem idle_log (e : HostEvent) (s : State) : (s.log e).idle = s.idle := rfl

end State

end Sys2Proof.Machine
end

