-- ==== Sys2Proof/Laws/Fields.lean ====
section
/-! SUPPORT. Putting the fields of a word together and taking them apart again: requests (R46, R47), response words (R49) and
16-bit values (R34). -/

namespace Sys2Proof

/-- The low part of a concatenation. -/
theorem extract_lo_append {m n : Nat} (a : BitVec m) (b : BitVec n) : (a ++ b).extractLsb' 0 n = b := by
  ext i hi
  simp [BitVec.getLsbD_append, hi]

/-- The high part of a concatenation. -/
theorem extract_hi_append {m n : Nat} (a : BitVec m) (b : BitVec n) : (a ++ b).extractLsb' n m = a := by
  ext i hi
  simp [BitVec.getLsbD_append, hi]

/-- A word is its two parts. -/
theorem append_extract {m n : Nat} (w : BitVec (m + n)) : w.extractLsb' n m ++ w.extractLsb' 0 n = w := by
  ext i hi
  rw [BitVec.getElem_append]
  split
  · simp [BitVec.getLsbD_eq_getElem hi]
  · rename_i h
    simp [Nat.add_sub_cancel' (Nat.le_of_not_lt h), BitVec.getLsbD_eq_getElem hi]

/-- The last of three parts. -/
theorem extract_lo_append₃ {m n k : Nat} (a : BitVec m) (b : BitVec n) (c : BitVec k) :
    (a ++ (b ++ c)).extractLsb' 0 k = c := by
  ext i hi
  simp [BitVec.getLsbD_append, hi, show ¬ n + k ≤ i by omega]

/-- The middle of three parts. -/
theorem extract_mid_append₃ {m n k : Nat} (a : BitVec m) (b : BitVec n) (c : BitVec k) :
    (a ++ (b ++ c)).extractLsb' k n = b := by
  ext i hi
  simp [BitVec.getLsbD_append, BitVec.getElem_append, show k + i < n + k by omega]

@[simp] theorem opField_append (op : Byte) (arg : BitVec 48) : opField (op ++ arg) = op := extract_hi_append op arg

@[simp] theorem argField_append (op : Byte) (arg : BitVec 48) : argField (op ++ arg) = arg := extract_lo_append op arg

/-- A request word is its `OP` and its `ARG` (R46). -/
theorem op_append_arg (w : ReqWord) : opField w ++ argField w = w := append_extract (m := 8) (n := 48) w

namespace Machine

@[simp] theorem statusField_append (st : Byte) (d : Data) : statusField (st ++ d) = st := extract_hi_append st d

@[simp] theorem dataField_append (st : Byte) (d : Data) : dataField (st ++ d) = d := extract_lo_append st d

@[simp] theorem hi8_be16 (a b : Byte) : hi8 (be16 a b) = a := extract_hi_append a b

@[simp] theorem lo8_be16 (a b : Byte) : lo8 (be16 a b) = b := extract_lo_append a b

@[simp] theorem be16_hi8_lo8 (v : Code) : be16 (hi8 v) (lo8 v) = v := append_extract (m := 8) (n := 8) v

@[simp] theorem dataLo16_append (a : BitVec 32) (t h : Code) : dataLo16 (a ++ (t ++ h)) = h :=
  extract_lo_append₃ a t h

@[simp] theorem dataHi16_append (a : BitVec 32) (t h : Code) : dataHi16 (a ++ (t ++ h)) = t :=
  extract_mid_append₃ a t h

@[simp] theorem dataLo16_setWidth (c : Code) : dataLo16 (c.setWidth 64) = c := by
  ext i hi
  simp [dataLo16, hi, show i < 64 by omega]

end Machine

end Sys2Proof
end

