-- ==== Sys2Proof/Laws/Exec.lean ====
section
/-! SUPPORT. What a meaning can do, said once: it runs the checksum machine or leaves it alone, and ends in one `respond`
(R59 "Each `do` ends in exactly one `respond`"). -/

namespace Sys2Proof.Machine

/-- The working values of the checksum machine after an operation: CRC8, VALIDATE and DECODE run it (R16). -/
def validatorAfter (i : Instr) (m : Validator) : Validator :=
  match i with
  | .crc8 c => serialEnd c
  | .validate v _ => serialEnd v
  | .decode _ _ _ b3 b4 _ => serialEnd (be16 b3 b4)
  | .encPup | .encPdn | .encMeas | .cvtTc _ | .cvtTf _ | .cvtRh _ | .cvtxTc _ | .cvtxTf _ | .cvtxRh _ => m

/-- The one thing a meaning does. -/
theorem exec_responds (i : Instr) (s : State) :
    ∃ st d, exec i s = .next ((s.withValidator (validatorAfter i s.validator)).respond st d) := by
  cases i with
  | decode b0 b1 b2 b3 b4 b5 =>
    simp only [exec, execDecode]
    split
    · exact ⟨_, _, rfl⟩
    · exact ⟨_, _, rfl⟩
  | _ => exact ⟨_, _, rfl⟩

/-- `complete` does what the held word asks for, or raises `Illegal` (R59). -/
theorem complete_ok {s : State} {i : Instr} (h : decode s.held = .ok i) : complete s = exec i s := by
  simp [complete, h]

theorem complete_error {s : State} {e : DecodeReject} (h : decode s.held = .error e) :
    complete s = .next (s.raise .illegal) := by
  simp [complete, h]

/-- Completing an operation is one `respond`, whatever the word. -/
theorem complete_responds (s : State) :
    ∃ m st d, complete s = .next ((s.withValidator m).respond st d) := by
  cases h : decode s.held with
  | ok i =>
    obtain ⟨st, d, e⟩ := exec_responds i s
    exact ⟨_, st, d, by rw [complete_ok h, e]⟩
  | error e => exact ⟨s.validator, _, _, complete_error h⟩

/-- A transaction is one `respond` between acceptance and delivery (R25). -/
theorem transact_responds (w : ReqWord) (s : State) :
    ∃ m st d, transact w s = .next (((s.accept w).withValidator m).respond st d).deliver := by
  obtain ⟨m, st, d, e⟩ := complete_responds (s.accept w)
  exact ⟨m, st, d, by simp [transact, e]⟩

/-- A request of the Orchestrator is a transaction, after which its program goes on. -/
theorem cvc_responds (i : Instr) (s : State) (next : Byte → Data → Point) :
    ∃ m st d, cvc i s next
      = .next ((((s.accept (encode i)).withValidator m).respond st d).deliver.goto (next st d)) := by
  obtain ⟨m, st, d, e⟩ := transact_responds (encode i) s
  exact ⟨m, st, d, by simp [cvc, e]⟩

/-- Obtaining a command frame is a request of the Orchestrator, or nothing but going on with the host's constant (R165). -/
theorem obtainFrame_cases (i : Instr) (word : Code) (a : EnvAnswer) (s : State) (next : Code → Point) :
    (a.ownFrame = true ∧ obtainFrame i word a s next = .next (s.goto (next word))) ∨
    (a.ownFrame = false ∧ obtainFrame i word a s next = cvc i s fun _ d => next (dataLo16 d)) := by
  cases h : a.ownFrame <;> simp [obtainFrame, h]

/-- What one clock edge can do (R23, R200): nothing, one of the four moves of the handshake, or a reset. -/
theorem clockEdge_cases (p : Pins) (s : State) :
    (p.rst = true ∧ clockEdge p s = .next s.resetEdge) ∨
    (p.rst = false ∧ clockEdge p s = .next s) ∨
    (p.rst = false ∧ s.busy = true ∧ s.rspValid = true ∧ p.rspReady = true ∧ clockEdge p s = .next s.deliver) ∨
    (p.rst = false ∧ s.busy = true ∧ s.rspValid = false ∧ p.done = true ∧ clockEdge p s = complete s) ∨
    (p.rst = false ∧ s.idle = true ∧ p.reqValid = true ∧ p.done = false ∧ clockEdge p s = .next (s.accept p.req)) ∨
    (p.rst = false ∧ s.idle = true ∧ p.reqValid = true ∧ p.done = true ∧ clockEdge p s = complete (s.accept p.req)) ∨
    (p.rst = false ∧ s.busy = false ∧ s.reqReady = false ∧ clockEdge p s = .next s.raiseReady) := by
  obtain ⟨rst, reqValid, req, rspReady, done⟩ := p
  cases rst <;> cases hb : s.busy <;> cases hv : s.rspValid <;> cases hr : s.reqReady <;> cases reqValid <;>
    cases rspReady <;> cases done <;> simp [clockEdge, hb, hv, hr, State.idle]

end Sys2Proof.Machine
end

