-- ==== Sys2Proof/Laws/PerInstr.lean ====
section
/-! SUPPORT. A statement for every instruction as syntax, one lemma per constructor: the encoder's word selects the row of
R52 that carries the instruction's mnemonic and operation code. -/

namespace Sys2Proof.Laws.SelectsItsRow

/-- The word of the instruction selects a row of R52 with its mnemonic, and carries that row's operation code. -/
def Statement (i : Instr) : Prop :=
  ∃ r ∈ opcodeRows, r.mnemonic = i.mnemonic ∧ opField (encode i) = r.op ∧ r.selects (encode i) = true

/-- A byte under an all-ones mask. -/
theorem and_ff (op : Byte) : op &&& 0xFF#8 = op := BitVec.and_allOnes

/-- Masking the operand of a format R word leaves the operation code alone. -/
theorem mask_formatR (op : Byte) (c : Code) :
    (op ++ (0#32 ++ c) : ReqWord) &&& (0xFF#8 ++ (0xFFFFFFFF#32 ++ 0#16)) = op ++ (0#32 ++ 0#16) := by
  rw [BitVec.and_append, BitVec.and_append, and_ff]
  simp

/-- Masking the operands of a format V word leaves the operation code alone. -/
theorem mask_formatV (op : Byte) (v : Code) (e : Byte) :
    (op ++ (0#24 ++ (v ++ e)) : ReqWord) &&& (0xFF#8 ++ (0xFFFFFF#24 ++ (0#16 ++ 0#8)))
      = op ++ (0#24 ++ (0#16 ++ 0#8)) := by
  rw [BitVec.and_append, BitVec.and_append, BitVec.and_append, and_ff]
  simp

/-- Masking the operand field of a word leaves the operation code alone. -/
theorem mask_formatF (op : Byte) (arg : BitVec 48) : (op ++ arg : ReqWord) &&& (0xFF#8 ++ 0#48) = op ++ 0#48 := by
  rw [BitVec.and_append, and_ff]
  simp

/-- A format R instruction selects its row. -/
theorem formatR (r : OpRow) (hr : r ∈ opcodeRows) (i : Instr) (c : Code) (hn : r.mnemonic = i.mnemonic)
    (he : encode i = encodeR r.op c) (hm : r.mask = 0xFF#8 ++ (0xFFFFFFFF#32 ++ 0#16))
    (hp : r.pattern = r.op ++ (0#32 ++ 0#16)) : Statement i := by
  refine ⟨r, hr, hn, by rw [he]; exact opField_append _ _, ?_⟩
  rw [OpRow.selects, he, hm, hp, encodeR, mask_formatR]
  exact beq_self_eq_true _

theorem crc8 (c : Code) : Statement (.crc8 c) :=
  formatR ⟨"CRC8", 0x01#8, 0x01000000000000#56, 0xFFFFFFFFFF0000#56⟩ (by decide) _ c rfl rfl (by decide) (by decide)

theorem validate (v : Code) (e : Byte) : Statement (.validate v e) := by
  refine ⟨⟨"VALIDATE", 0x02#8, 0x02000000000000#56, 0xFFFFFFFF000000#56⟩, by decide, rfl, opField_append _ _, ?_⟩
  rw [OpRow.selects, encode, show (0xFFFFFFFF000000#56 : ReqWord) = 0xFF#8 ++ (0xFFFFFF#24 ++ (0#16 ++ 0#8)) by decide,
    mask_formatV]
  decide

theorem encPup : Statement .encPup :=
  ⟨⟨"ENC.PUP", 0x10#8, 0x10000000000000#56, 0xFFFFFFFFFFFFFF#56⟩, by decide, rfl, by decide, by decide⟩

theorem encPdn : Statement .encPdn :=
  ⟨⟨"ENC.PDN", 0x11#8, 0x11000000000000#56, 0xFFFFFFFFFFFFFF#56⟩, by decide, rfl, by decide, by decide⟩

theorem encMeas : Statement .encMeas :=
  ⟨⟨"ENC.MEAS", 0x12#8, 0x12000000000000#56, 0xFFFFFFFFFFFFFF#56⟩, by decide, rfl, by decide, by decide⟩

theorem decode (b0 b1 b2 b3 b4 b5 : Byte) : Statement (.decode b0 b1 b2 b3 b4 b5) := by
  refine ⟨⟨"DECODE", 0x20#8, 0x20000000000000#56, 0xFF000000000000#56⟩, by decide, rfl, opField_append _ _, ?_⟩
  rw [OpRow.selects, encode, show (0xFF000000000000#56 : ReqWord) = 0xFF#8 ++ 0#48 by decide, mask_formatF]
  decide

theorem cvtTc (c : Code) : Statement (.cvtTc c) :=
  formatR ⟨"CVT.TC", 0x30#8, 0x30000000000000#56, 0xFFFFFFFFFF0000#56⟩ (by decide) _ c rfl rfl (by decide) (by decide)

theorem cvtTf (c : Code) : Statement (.cvtTf c) :=
  formatR ⟨"CVT.TF", 0x31#8, 0x31000000000000#56, 0xFFFFFFFFFF0000#56⟩ (by decide) _ c rfl rfl (by decide) (by decide)

theorem cvtRh (c : Code) : Statement (.cvtRh c) :=
  formatR ⟨"CVT.RH", 0x32#8, 0x32000000000000#56, 0xFFFFFFFFFF0000#56⟩ (by decide) _ c rfl rfl (by decide) (by decide)

theorem cvtxTc (c : Code) : Statement (.cvtxTc c) :=
  formatR ⟨"CVTX.TC", 0x38#8, 0x38000000000000#56, 0xFFFFFFFFFF0000#56⟩ (by decide) _ c rfl rfl (by decide) (by decide)

theorem cvtxTf (c : Code) : Statement (.cvtxTf c) :=
  formatR ⟨"CVTX.TF", 0x39#8, 0x39000000000000#56, 0xFFFFFFFFFF0000#56⟩ (by decide) _ c rfl rfl (by decide) (by decide)

theorem cvtxRh (c : Code) : Statement (.cvtxRh c) :=
  formatR ⟨"CVTX.RH", 0x3A#8, 0x3A000000000000#56, 0xFFFFFFFFFF0000#56⟩ (by decide) _ c rfl rfl (by decide) (by decide)

end Sys2Proof.Laws.SelectsItsRow
end

