-- ==== Sys2Proof/Certificates/Slice0/Obligations.lean ====
section
/-! DEFINITION. The statements for the provers. Each docstring names the rules of spec/ it comes from; OBLIGATIONS.json holds
the same list with quotes. A free value of the model (`held`, `pending` and `validator` after a reset, the parameters) is
never rested on: every statement holds for every value of those fields. -/

open Sys2Proof Sys2Proof.Machine

/-! ### Encoding (30_encoding.md) -/

/-- Decoding an encoded operation gives it back, for all twelve operations and every operand (R46 to R48, R52, R59). -/
def Obligations.DecodeInvertsEncode : Prop := ∀ i : Instr, decode (encode i) = .ok i

/-- Each legal request word is the encoding of what it decodes to: the decoder drops no bit (R52, R54, R59). -/
def Obligations.EncodeInvertsDecode : Prop := ∀ (w : ReqWord) (i : Instr), decode w = .ok i → encode i = w

/-- R52: the rows are disjoint; a word that a row selects decodes to that row's operation; a word that no row selects is
answered as illegal. -/
def Obligations.OpcodeMapPartitionsRequestWords : Prop :=
  (∀ (w : ReqWord) (r r' : OpRow), r ∈ opcodeRows → r' ∈ opcodeRows → r.selects w = true → r'.selects w = true → r = r') ∧
  (∀ (w : ReqWord) (r : OpRow), r ∈ opcodeRows → r.selects w = true →
    ∃ i : Instr, decode w = .ok i ∧ i.mnemonic = r.mnemonic ∧ opField w = r.op) ∧
  (∀ w : ReqWord, (∀ r ∈ opcodeRows, r.selects w = false) → AnsweredIllegal w)

/-- Worked encodings of 30_encoding.md section 8, one or two of each format, and the words above 56 bits' reach. -/
def Obligations.WorkedEncodingsDecode : Prop :=
  decode 0x0100000000BEEF#56 = .ok (.crc8 0xBEEF#16) ∧
  decode 0x02000000BEEF92#56 = .ok (.validate 0xBEEF#16 0x92#8) ∧
  decode 0x10000000000000#56 = .ok .encPup ∧
  decode 0x11000000000000#56 = .ok .encPdn ∧
  decode 0x12000000000000#56 = .ok .encMeas ∧
  decode 0x20664CCE7A3091#56 = .ok (.decode 0x66#8 0x4C#8 0xCE#8 0x7A#8 0x30#8 0x91#8) ∧
  decode 0x3100000000664C#56 = .ok (.cvtTf 0x664C#16) ∧
  decode 0x3A000000007A30#56 = .ok (.cvtxRh 0x7A30#16) ∧
  decode 0x00000000000000#56 = .error (.reservedOp 0x00#8) ∧
  decode 0x0100000001BEEF#56 = .error (.mbzSet 0x01#8)

/-- R53: a reserved `OP` is illegal whatever its `ARG`; there are 244 of them, and the all-zero word has one. -/
def Obligations.ReservedOpIsAnsweredIllegal : Prop :=
  (∀ w : ReqWord, reservedOp (opField w) = true → AnsweredIllegal w) ∧
  (∀ op : Byte, reservedOp op = true ↔ ∀ r ∈ opcodeRows, r.op ≠ op) ∧
  ((List.range 256).countP fun n => reservedOp (BitVec.ofNat 8 n)) = 244 ∧
  AnsweredIllegal 0#56

/-- R54: a listed `OP` with a must-be-zero bit of its format set is illegal; every word with `OP = 0x20` is legal. -/
def Obligations.MbzBitSetIsAnsweredIllegal : Prop :=
  (∀ w : ReqWord,
    opField w ∈ [0x01#8, 0x30#8, 0x31#8, 0x32#8, 0x38#8, 0x39#8, 0x3A#8] →
    (argField w).extractLsb' 16 32 ≠ 0#32 → AnsweredIllegal w) ∧
  (∀ w : ReqWord, opField w = 0x02#8 → (argField w).extractLsb' 24 24 ≠ 0#24 → AnsweredIllegal w) ∧
  (∀ w : ReqWord, opField w ∈ [0x10#8, 0x11#8, 0x12#8] → argField w ≠ 0#48 → AnsweredIllegal w) ∧
  (∀ w : ReqWord, opField w = 0x20#8 → ∃ i : Instr, decode w = .ok i)

/-- R56: an illegal request changes nothing. What CVC answers to the request after it, and the state that request leaves, are
as if the illegal one had never been issued, but for the record of the response already delivered. -/
def Obligations.IllegalRequestChangesNothing : Prop :=
  ∀ (s : State) (w w' : ReqWord) (e : DecodeReject), decode w = .error e →
    ∃ t u v : State, transact w s = .next t ∧ transact w' t = .next u ∧ transact w' s = .next v ∧
      t.responses = s.responses ++ [0x01#8 ++ 0#64] ∧
      t.validator = s.validator ∧ t.params = s.params ∧ t.point = s.point ∧ t.trace = s.trace ∧ t.inputs = s.inputs ∧
      t.draws = s.draws ∧
      u.responses = t.responses ++ [v.pending] ∧ v.responses = s.responses ++ [v.pending] ∧
      { u with responses := v.responses } = v

/-- R50 and the last sentence of R51 before its table: STATUS takes five values; which bit is set when; bits 7:4 are 0; a
VALIDATE mismatch is no error; `DATA = 0` whenever STATUS is not 0x00. -/
def Obligations.StatusSaysWhatHappened : Prop :=
  ∀ (w : ReqWord) (s : State), ∃ t : State, transact w s = .next t ∧
    legalResponse t.pending ∧
    (statusField t.pending).extractLsb' 4 4 = 0#4 ∧
    statusCkerr (statusField t.pending) = (statusTBad (statusField t.pending) || statusHBad (statusField t.pending)) ∧
    (statusIllegal (statusField t.pending) = true → statusField t.pending = 0x01#8) ∧
    (statusIllegal (statusField t.pending) = true ↔ ∃ e : DecodeReject, decode w = .error e) ∧
    (statusTBad (statusField t.pending) = true ↔
      ∃ b0 b1 b2 b3 b4 b5 : Byte, decode w = .ok (.decode b0 b1 b2 b3 b4 b5) ∧ crc8 (be16 b0 b1) ≠ b2) ∧
    (statusHBad (statusField t.pending) = true ↔
      ∃ b0 b1 b2 b3 b4 b5 : Byte, decode w = .ok (.decode b0 b1 b2 b3 b4 b5) ∧ crc8 (be16 b3 b4) ≠ b5) ∧
    (∀ (v : Code) (x : Byte), decode w = .ok (.validate v x) →
      statusField t.pending = 0x00#8 ∧ (x ≠ crc8 v → dataField t.pending = 0#64))

/-- R36: the frame's bytes keep wire order inside the request word, the 16-bit values are read as they stand, and `ARG[23:0]`
of a frame has the layout of a VALIDATE operand; a command frame's first byte is `DATA[15:8]`. -/
def Obligations.WireOrderIsKeptInsideTheWords : Prop :=
  (∀ (w : ReqWord) (b0 b1 b2 b3 b4 b5 : Byte), decode w = .ok (.decode b0 b1 b2 b3 b4 b5) →
    (argField w).extractLsb' 40 8 = b0 ∧ (argField w).extractLsb' 0 8 = b5 ∧
    (argField w).extractLsb' 32 16 = be16 b0 b1 ∧
    (argField w).extractLsb' 24 24 = be16 b0 b1 ++ b2 ∧
    decode (0x02#8 ++ (0#24 ++ (argField w).extractLsb' 0 24)) = .ok (.validate (be16 b3 b4) b5)) ∧
  (∀ (c : Command) (s : State), ∃ t : State, exec c.request s = .next t ∧
    (dataField t.pending).extractLsb' 8 8 = (encodeContract c).first ∧
    (dataField t.pending).extractLsb' 0 8 = (encodeContract c).second)

/-! ### The checksum validator (40_checksum_validator.md) -/

/-- R74, with its encoding, its corner cases and its example: CRC8 completes in every state. -/
def Obligations.Crc8RespondsWithTheChecksum : Prop :=
  (∀ (c : Code) (s : State),
    ∃ m : Validator, exec (.crc8 c) s = .next ((s.withValidator m).respond 0x00#8 ((crc8 c).setWidth 64))) ∧
  FormatR 0x01#8 .crc8 ∧
  crc8 0x0000#16 = 0x81#8 ∧ crc8 0xFFFF#16 = 0xAC#8 ∧ crc8 0xFF00#16 = 0x00#8 ∧
  crc8 0x0001#16 = 0xB0#8 ∧ crc8 0x0100#16 = 0x75#8 ∧ crc8 0xBEEF#16 = 0x92#8

/-- R75, with its encoding and its corner cases: VALIDATE completes in every state, with STATUS 0x00 on match and mismatch. -/
def Obligations.ValidateRespondsWithTheComparison : Prop :=
  (∀ (v : Code) (s : State),
    ∃ m : Validator, exec (.validate v (crc8 v)) s = .next ((s.withValidator m).respond 0x00#8 1#64)) ∧
  (∀ (v : Code) (x : Byte) (s : State), x ≠ crc8 v →
    ∃ m : Validator, exec (.validate v x) s = .next ((s.withValidator m).respond 0x00#8 0#64)) ∧
  FormatV 0x02#8 .validate ∧
  crc8 0x0000#16 ≠ 0x00#8 ∧ crc8 0xFFFF#16 ≠ 0xFF#8 ∧ crc8 0xBEEF#16 = 0x92#8

/-- R78: for every value exactly one expected byte validates. -/
def Obligations.ExactlyOneChecksumValidates : Prop :=
  ∀ (v : Code) (s : State), ∃ e : Byte, ∀ x : Byte, ∃ t : State, exec (.validate v x) s = .next t ∧
    (dataField t.pending = 1#64 ↔ x = e) ∧ (dataField t.pending = 0#64 ↔ x ≠ e) ∧ e = crc8 v

/-- R73: after `start`, sixteen shifts and one `next byte` lead to `finish` and not sooner, with the checksum in `acc`. -/
def Obligations.SerialMachineComputesTheChecksum : Prop :=
  ∀ v : Code,
    (∀ k : Nat, k < 17 → serialFinished (Nat.iterate (serialStep v) k (serialStart v)) = false) ∧
    ((List.range 17).countP fun k => (Nat.iterate (serialStep v) k (serialStart v)).iter < 8) = 16 ∧
    (∀ k : Nat, k < 17 → (Nat.iterate (serialStep v) k (serialStart v)).iter < 8 ∨
      ((Nat.iterate (serialStep v) k (serialStart v)).sel = .hi ∧
        (Nat.iterate (serialStep v) k (serialStart v)).iter = 8)) ∧
    serialFinished (Nat.iterate (serialStep v) 17 (serialStart v)) = true ∧
    Nat.iterate (serialStep v) 17 (serialStart v) = ⟨crc8 v, .lo, 8⟩

/-- R80: the table of 256 bytes is `step8`, and two look-ups give the checksum. -/
def Obligations.TableFormComputesTheChecksum : Prop :=
  (∀ x : Byte, crcTable[x.toNat]? = some (step8 x)) ∧
  ∀ v : Code, some (crc8 v) =
    (crcTable[(0xFF#8 ^^^ hi8 v).toNat]?).bind fun t => crcTable[(t ^^^ lo8 v).toNat]?

/-- R81: `step8` is a bijection; with either byte fixed the checksum is a bijection of the other; each checksum has exactly
256 values; changing exactly one byte of a valid field makes it invalid. -/
def Obligations.ChecksumStepIsABijection : Prop :=
  Function.Bijective step8 ∧
  (∀ h : Byte, Function.Bijective fun l : Byte => crc8 (be16 h l)) ∧
  (∀ l : Byte, Function.Bijective fun h : Byte => crc8 (be16 h l)) ∧
  (∀ e : Byte, ((List.range 65536).countP fun n => crc8 (BitVec.ofNat 16 n) == e) = 256) ∧
  (∀ h l c x : Byte, crc8 (be16 h l) = c →
    (x ≠ h → crc8 (be16 x l) ≠ c) ∧ (x ≠ l → crc8 (be16 h x) ≠ c) ∧ (x ≠ c → crc8 (be16 h l) ≠ x))

/-- R82, first part: the checksum is affine over XOR, and is 0x81 XORed with the listed column of each set bit. -/
def Obligations.ChecksumIsAffine : Prop :=
  (∀ a b c : Code, crc8 (a ^^^ b ^^^ c) = crc8 a ^^^ crc8 b ^^^ crc8 c) ∧
  (∀ v : Code, crc8 v =
    ((List.range 16).foldl (fun x i => if v.getLsbD i then x ^^^ crcColumns.getD i 0#8 else x) 0x81#8))

/-- R82, second part: every error pattern of one, two or three flipped bits of a field, and every pattern with an odd number
of flipped bits, is detected; the pattern of the rule's example, of four bits, is not. -/
def Obligations.SmallErrorPatternsAreDetected : Prop :=
  (∀ (v : Code) (c : Byte) (e : BitVec 24), crc8 v = c →
    (flippedBits e = 1 ∨ flippedBits e = 2 ∨ flippedBits e = 3 ∨ flippedBits e % 2 = 1) →
    crc8 (v ^^^ e.extractLsb' 8 16) ≠ c ^^^ e.extractLsb' 0 8) ∧
  (∀ (v : Code) (c : Byte), crc8 v = c → crc8 (v ^^^ 0x0001#16) = c ^^^ 0x31#8)

/-- R83: the checksum is the remainder of `(v ^ 0xFF00) * x^8` divided by `x^8 + x^5 + x^4 + 1` over GF(2). -/
def Obligations.ChecksumIsAPolynomialRemainder : Prop :=
  ∀ v : Code, crc8 v = polyRemainder (((v ^^^ 0xFF00#16).setWidth 24) <<< 8)

/-! ### The command encoder (41_command_encoder.md) -/

/-- R91 to R93: the three command words, with their encodings; the operations complete in every state and run nothing else. -/
def Obligations.CommandEncoderRespondsWithTheCommandWords : Prop :=
  (∀ s : State, exec .encPup s = .next (s.respond 0x00#8 0x3517#64)) ∧
  (∀ s : State, exec .encPdn s = .next (s.respond 0x00#8 0xB098#64)) ∧
  (∀ s : State, exec .encMeas s = .next (s.respond 0x00#8 0x7CA2#64)) ∧
  FormatN 0x10#8 .encPup ∧ FormatN 0x11#8 .encPdn ∧ FormatN 0x12#8 .encMeas ∧
  wireBytes 0x3517#16 = [0x35#8, 0x17#8] ∧ wireBytes 0xB098#16 = [0xB0#8, 0x98#8] ∧ wireBytes 0x7CA2#16 = [0x7C#8, 0xA2#8]

/-! ### The measurement decoder (42_measurement_decoder.md) -/

/-- R102 to R105, R176: DECODE completes in every state. Both fields pass: STATUS 0x00 and both raw values; otherwise the bit
of each failed field, and neither value. Whatever DECODE leaves in the checksum machine, `m`, nothing else changes. -/
def Obligations.DecodeRespondsWithBothValuesOrNeither : Prop :=
  (∀ (b0 b1 b2 b3 b4 b5 : Byte) (s : State), ∃ m : Validator,
    (crc8 (be16 b0 b1) = b2 → crc8 (be16 b3 b4) = b5 →
      exec (.decode b0 b1 b2 b3 b4 b5) s
        = .next ((s.withValidator m).respond 0x00#8 (0#32 ++ (be16 b0 b1 ++ be16 b3 b4)))) ∧
    (crc8 (be16 b0 b1) ≠ b2 → crc8 (be16 b3 b4) = b5 →
      exec (.decode b0 b1 b2 b3 b4 b5) s = .next ((s.withValidator m).respond 0x06#8 0#64)) ∧
    (crc8 (be16 b0 b1) = b2 → crc8 (be16 b3 b4) ≠ b5 →
      exec (.decode b0 b1 b2 b3 b4 b5) s = .next ((s.withValidator m).respond 0x0A#8 0#64)) ∧
    (crc8 (be16 b0 b1) ≠ b2 → crc8 (be16 b3 b4) ≠ b5 →
      exec (.decode b0 b1 b2 b3 b4 b5) s = .next ((s.withValidator m).respond 0x0E#8 0#64))) ∧
  FormatF 0x20#8 .decode ∧
  crc8 (be16 0x00#8 0x00#8) = 0x81#8 ∧ crc8 (be16 0xFF#8 0xFF#8) = 0xAC#8 ∧
  crc8 (be16 0x66#8 0x4C#8) = 0xCE#8 ∧ crc8 (be16 0x7A#8 0x30#8) = 0x91#8

/-- R107: a frame built from a pair and its checksums decodes to the pair; replacing exactly one byte by a different value
fails in the field of that byte alone. -/
def Obligations.FrameRoundTripAndSingleByteCorruption : Prop :=
  (∀ (t h : Code) (s : State), ∃ m : Validator,
    exec (.decode (hi8 t) (lo8 t) (crc8 t) (hi8 h) (lo8 h) (crc8 h)) s
      = .next ((s.withValidator m).respond 0x00#8 (0#32 ++ (t ++ h)))) ∧
  (∀ (t h : Code) (k : Fin 6) (x : Byte) (s : State),
    let frame := [hi8 t, lo8 t, crc8 t, hi8 h, lo8 h, crc8 h]
    frame[k.val]? ≠ some x →
    ∃ (i : Instr) (u : State), frameRequest (frame.set k.val x) = some i ∧ exec i s = .next u ∧
      u.pending = (if k.val < 3 then 0x06#8 else 0x0A#8) ++ 0#64)

/-! ### The unit converter (43_unit_converter.md) -/

/-- R119: CVT.TC completes in every state with the formula's value, operation by operation, in the format FPFMT; its corner
cases and examples in both formats. -/
def Obligations.CvtTcRespondsWithTheFormula : Prop :=
  (∀ (c : Code) (s : State),
    let f := s.params.fpfmt
    exec (.cvtTc c) s = .next (s.respond 0x00#8
      (fbits f (fadd f (fcvt f (-45)) (fmul f (fcvt f 175) (fdiv f (fcvt f c.toNat) (fcvt f 65535))))))) ∧
  FormatR 0x30#8 .cvtTc ∧
  (∀ f : FpFormat, (celsius f 0x0000#16).value = -45 ∧ (celsius f 0xFFFF#16).value = 130 ∧
    fbits f (codeFraction f 0x0000#16) = 0#64 ∧ fbits f (fmul f (fcvt f 175) (codeFraction f 0x0000#16)) = 0#64 ∧
    (codeFraction f 0xFFFF#16).value = 1 ∧ (fmul f (fcvt f 175) (codeFraction f 0xFFFF#16)).value = 175) ∧
  (∀ (f : FpFormat) (c : Code),
    (c.toNat ≤ 0x41D3 → (celsius f c).value < 0) ∧ (0x41D4 ≤ c.toNat → 0 < (celsius f c).value)) ∧
  fbits .binary32 (celsius .binary32 0x664C#16) = 0x41C771D0#64 ∧
  fbits .binary64 (celsius .binary64 0x664C#16) = 0x4038EE39EE39EE3C#64

/-- R120: CVT.TF completes in every state; left to right (D15; log 12), from the CVT.TC value of the same code; corner cases and examples;
and at the first code where the other reading of the formula differs, the written order is the one computed. -/
def Obligations.CvtTfRespondsWithTheFormula : Prop :=
  (∀ (c : Code) (s : State),
    let f := s.params.fpfmt
    exec (.cvtTf c) s = .next (s.respond 0x00#8
      (fbits f (fadd f (fdiv f (fmul f (celsius f c) (fcvt f 9)) (fcvt f 5)) (fcvt f 32))))) ∧
  FormatR 0x31#8 .cvtTf ∧
  (∀ f : FpFormat, (fahrenheit f 0x0000#16).value = -49 ∧ (fahrenheit f 0xFFFF#16).value = 266) ∧
  (∀ (f : FpFormat) (c : Code),
    (c.toNat ≤ 0x27D2 → (fahrenheit f c).value < 0) ∧ (0x27D3 ≤ c.toNat → 0 < (fahrenheit f c).value)) ∧
  fbits .binary32 (fahrenheit .binary32 0x664C#16) = 0x4299C004#64 ∧
  fbits .binary64 (fahrenheit .binary64 0x664C#16) = 0x4053380078007802#64 ∧
  fbits .binary32 (fahrenheit .binary32 0x00EC#16) = 0xC23F766C#64 ∧
  fbits .binary64 (fahrenheit .binary64 0x0002#16) = 0xC0487EC4FEC4FEC4#64

/-- R121: CVT.RH completes in every state; zero for code 0 only, as +0; corner cases and examples. -/
def Obligations.CvtRhRespondsWithTheFormula : Prop :=
  (∀ (c : Code) (s : State),
    let f := s.params.fpfmt
    exec (.cvtRh c) s = .next (s.respond 0x00#8
      (fbits f (fmul f (fcvt f 100) (fdiv f (fcvt f c.toNat) (fcvt f 65535)))))) ∧
  FormatR 0x32#8 .cvtRh ∧
  (∀ f : FpFormat, fbits f (humidity f 0x0000#16) = 0#64 ∧ (humidity f 0xFFFF#16).value = 100) ∧
  (∀ (f : FpFormat) (c : Code), (humidity f c).value = 0 ↔ c = 0x0000#16) ∧
  fbits .binary32 (humidity .binary32 0x7A30#16) = 0x423EEBBF#64 ∧
  fbits .binary64 (humidity .binary64 0x7A30#16) = 0x4047DD77DD77DD78#64

/-- R125 to R127: the fixed-point operations complete in every state, with their encodings, corner cases and examples. -/
def Obligations.CvtxRespondsWithTheScaledQuotient : Prop :=
  (∀ (c : Code) (s : State), exec (.cvtxTc c) s = .next (s.respond 0x00#8
    ((BitVec.ofInt 32 (((175 * c.toNat * 65536 / 65535 : Nat) : Int) - 2949120)).setWidth 64))) ∧
  (∀ (c : Code) (s : State), exec (.cvtxTf c) s = .next (s.respond 0x00#8
    ((BitVec.ofInt 32 (((315 * c.toNat * 65536 / 65535 : Nat) : Int) - 3211264)).setWidth 64))) ∧
  (∀ (c : Code) (s : State), exec (.cvtxRh c) s = .next (s.respond 0x00#8
    ((BitVec.ofInt 32 ((100 * c.toNat * 65536 / 65535 : Nat) : Int)).setWidth 64))) ∧
  FormatR 0x38#8 .cvtxTc ∧ FormatR 0x39#8 .cvtxTf ∧ FormatR 0x3A#8 .cvtxRh ∧
  celsiusFixed 0x0000#16 = -2949120 ∧ celsiusFixed 0xFFFF#16 = 8519680 ∧ celsiusFixed 0x41D4#16 = 25 ∧
  (∀ c : Code, (c.toNat ≤ 0x41D3 → celsiusFixed c < 0) ∧ (0x41D4 ≤ c.toNat → 0 < celsiusFixed c)) ∧
  fahrenheitFixed 0x0000#16 = -3211264 ∧ fahrenheitFixed 0xFFFF#16 = 17432576 ∧ fahrenheitFixed 0x27D3#16 = 210 ∧
  (∀ c : Code, (c.toNat ≤ 0x27D2 → fahrenheitFixed c < 0) ∧ (0x27D3 ≤ c.toNat → 0 < fahrenheitFixed c)) ∧
  humidityFixed 0x0000#16 = 0 ∧ humidityFixed 0xFFFF#16 = 6553600 ∧ (∀ c : Code, 0 ≤ humidityFixed c) ∧
  (∀ n : Int, (fixedData n).extractLsb' 32 32 = 0#32) ∧
  fixedData (-2949120) = 0x00000000FFD30000#64 ∧ fixedData 8519680 = 0x0000000000820000#64 ∧
  fixedData (-3211264) = 0x00000000FFCF0000#64 ∧ fixedData 17432576 = 0x00000000010A0000#64 ∧
  fixedData 6553600 = 0x0000000000640000#64 ∧
  celsiusFixed 0x664C#16 = 1633849 ∧ fahrenheitFixed 0x664C#16 = 5038081 ∧ humidityFixed 0x7A30#16 = 3128047

/-- R124 and R128: each fixed-point result is the exact value times 65536, rounded toward minus infinity; it is returned in
`DATA[31:0]` under zeros; it fits 32-bit two's complement, so nothing wraps; it is less than one unit below the exact value. -/
def Obligations.FixedPointIsTheFloorOfTheExactValue : Prop :=
  ∀ c : Code,
    (∀ s : State, exec (.cvtxTc c) s = .next (s.respond 0x00#8 (fixedData (celsiusFixed c))) ∧
      exec (.cvtxTf c) s = .next (s.respond 0x00#8 (fixedData (fahrenheitFixed c))) ∧
      exec (.cvtxRh c) s = .next (s.respond 0x00#8 (fixedData (humidityFixed c)))) ∧
    (celsiusFixed c = ⌊tcExact c.toNat * 65536⌋ ∧ fahrenheitFixed c = ⌊tfExact c.toNat * 65536⌋ ∧
      humidityFixed c = ⌊rhExact c.toNat * 65536⌋) ∧
    (∀ n ∈ [celsiusFixed c, fahrenheitFixed c, humidityFixed c],
      -3211264 ≤ n ∧ n ≤ 17432576 ∧ ((fixedData n).extractLsb' 0 32).toInt = n ∧
        (fixedData n).extractLsb' 32 32 = 0#32) ∧
    (0 ≤ tcExact c.toNat - celsiusFixed c / 65536 ∧ tcExact c.toNat - celsiusFixed c / 65536 < 1 / 2 ^ 16) ∧
    (0 ≤ tfExact c.toNat - fahrenheitFixed c / 65536 ∧ tfExact c.toNat - fahrenheitFixed c / 65536 < 1 / 2 ^ 16) ∧
    (0 ≤ rhExact c.toNat - humidityFixed c / 65536 ∧ rhExact c.toNat - humidityFixed c / 65536 < 1 / 2 ^ 16)

/-- R129: all six operations are strictly increasing in CODE, so two different codes never give the same result, in
binary32, in binary64 or in Q16.16. -/
def Obligations.ConversionsAreStrictlyIncreasing : Prop :=
  (∀ c d : Code, c.toNat < d.toNat →
    celsiusFixed c < celsiusFixed d ∧ fahrenheitFixed c < fahrenheitFixed d ∧ humidityFixed c < humidityFixed d) ∧
  (∀ (f : FpFormat) (c d : Code), c.toNat < d.toNat →
    (celsius f c).value < (celsius f d).value ∧ (fahrenheit f c).value < (fahrenheit f d).value ∧
    (humidity f c).value < (humidity f d).value) ∧
  (∀ (c d : Code) (s : State), c ≠ d →
    ∀ i ∈ [Instr.cvtTc, Instr.cvtTf, Instr.cvtRh, Instr.cvtxTc, Instr.cvtxTf, Instr.cvtxRh],
      ∃ t u : State, exec (i c) s = .next t ∧ exec (i d) s = .next u ∧ dataField t.pending ≠ dataField u.pending)

/-- R130: the end points are exact in both formats. -/
def Obligations.ConverterEndPointsAreExact : Prop :=
  ∀ f : FpFormat,
    (celsius f 0x0000#16).value = -45 ∧ (celsius f 0xFFFF#16).value = 130 ∧
    (humidity f 0x0000#16).value = 0 ∧ (humidity f 0xFFFF#16).value = 100

/-- R131, last paragraph, with the table of R116: at the six codes whose exact values are integers, binary64 gives them
exactly, and so does binary32 but at 0x9999, where it gives the listed patterns. -/
def Obligations.IntegerValuedCodesTellTheFormatsApart : Prop :=
  (∀ x ∈ [((0x0000#16 : Code), ((-45, -49, 0) : ℚ × ℚ × ℚ)), (0x3333#16, (-10, 14, 20)), (0x6666#16, (25, 77, 40)),
      (0x9999#16, (60, 140, 60)), (0xCCCC#16, (95, 203, 80)), (0xFFFF#16, (130, 266, 100))],
    tcExact x.1.toNat = x.2.1 ∧ tfExact x.1.toNat = x.2.2.1 ∧ rhExact x.1.toNat = x.2.2.2 ∧
    ∀ f : FpFormat, f = .binary64 ∨ x.1 ≠ 0x9999#16 →
      (celsius f x.1).value = x.2.1 ∧ (fahrenheit f x.1).value = x.2.2.1 ∧ (humidity f x.1).value = x.2.2.2) ∧
  fbits .binary32 (celsius .binary32 0x9999#16) = 0x42700002#64 ∧
  fbits .binary32 (fahrenheit .binary32 0x9999#16) = 0x430C0001#64 ∧
  fbits .binary32 (humidity .binary32 0x9999#16) = 0x42700001#64

/-- R117: `fadd`, `fmul`, `fdiv` and `fcvt` return the exact result rounded once, to nearest with ties to the even
significand, on all finite operands. That a value has no upper end of its range is the model's (log 10); that the source's
arithmetic rounds so is the spec's presumption (log 11). -/
def Obligations.ArithmeticRoundsOnceToNearestEven : Prop :=
  (∀ (f : FpFormat) (a b : Fp), NearestEven f (a.value + b.value) (fadd f a b)) ∧
  (∀ (f : FpFormat) (a b : Fp), NearestEven f (a.value * b.value) (fmul f a b)) ∧
  (∀ (f : FpFormat) (a b : Fp), b.mant ≠ 0 → NearestEven f (a.value / b.value) (fdiv f a b)) ∧
  (∀ (f : FpFormat) (n : Int), NearestEven f n (fcvt f n))

/-- R118: integers below 2^24 in magnitude, the constants and every raw code among them, are represented exactly. -/
def Obligations.SmallIntegersAreExact : Prop :=
  (∀ (f : FpFormat) (n : Int), n.natAbs < 2 ^ 24 → (fcvt f n).value = n) ∧
  (∀ (f : FpFormat) (c : Code), (fcvt f c.toNat).value = c.toNat)

/-- R117 and R122: the pattern `fbits` gives stands, under IEEE 754, for the value it was made from, for every rounded value
within the range of the format; a binary32 pattern lies in `DATA[31:0]`. -/
def Obligations.PatternStandsForItsValue : Prop :=
  ∀ (f : FpFormat) (num : Int) (den : Nat) (e : Int), 0 < den →
    |(fround f num den e).value| < (2 : ℚ) ^ (fpBias f + 1) →
    ieeeValue f (fbits f (fround f num den e)) = (fround f num den e).value ∧
    exponentField f (fbits f (fround f num den e)) < 2 ^ fpExpBits f - 1 ∧
    (f = .binary32 → (fbits f (fround f num den e)).extractLsb' 32 32 = 0#32)

/-- R123: every result and every intermediate value of the three floating-point operations is a finite normal number or +0,
for every code in both formats; only CVT.RH of code 0 gives zero. -/
def Obligations.NoSpecialValueArises : Prop :=
  ∀ (f : FpFormat) (c : Code),
    (∀ x ∈ [codeFraction f c, fmul f (fcvt f 175) (codeFraction f c), celsius f c,
        fmul f (celsius f c) (fcvt f 9), fdiv f (fmul f (celsius f c) (fcvt f 9)) (fcvt f 5), fahrenheit f c, humidity f c],
      normalOrPlusZero f (fbits f x)) ∧
    fbits f (celsius f c) ≠ 0#64 ∧ fbits f (fahrenheit f c) ≠ 0#64 ∧
    (fbits f (humidity f c) = 0#64 ↔ c = 0x0000#16)

/-! ### The block and its handshake (10_state.md, 70_reset_and_hazards.md) -/

/-- A step runs the decoded request: with a request at the head of the inputs and CVC idle, one step is acceptance, the
meaning, delivery (R24, R25); while CVC is not idle, one step is an edge of the wait and the request stays (R206; log 18). -/
def Obligations.StepRunsTheDecodedRequest : Prop :=
  (∀ (s : State) (w : ReqWord) (rest : List Input) (i : Instr),
    s.inputs = .request w :: rest → s.idle = true → decode w = .ok i →
    step s = match exec i ((s.withInputs rest).accept w) with
      | .next t => .next t.deliver
      | .fault r => .fault r
      | .refused r => .refused r) ∧
  (∀ (s : State) (w : ReqWord) (rest : List Input),
    s.inputs = .request w :: rest → s.idle = false → step s = clockEdge waitPins s)

/-- R9, R25, R59: one step answers the request with `exec(req)`, a function of the word and FPFMT alone, and leaves CVC idle
with nothing else changed. -/
def Obligations.StepAnswersExecOfTheRequest : Prop :=
  ∀ (s : State) (w : ReqWord) (rest : List Input), s.inputs = .request w :: rest → s.idle = true →
    ∃ t : State, step s = .next t ∧ t.responses = s.responses ++ [answer s.params.fpfmt w] ∧
      t.idle = true ∧ t.rspValid = false ∧ t.inputs = rest ∧
      t.params = s.params ∧ t.point = s.point ∧ t.trace = s.trace ∧ t.draws = s.draws

/-- R212: a run of requests from the idle state is observed as the element-wise image of its words under `exec`, and ends
idle; nothing else changes. -/
def Obligations.RunIsTheElementwiseImageOfItsRequests : Prop :=
  ∀ (ws : List ReqWord) (rest : List Input) (s : State), s.idle = true → s.inputs = ws.map .request ++ rest →
    ∃ t : State, Sys2Proof.core.run ws.length s = .next t ∧
      t.responses = s.responses ++ ws.map (answer s.params.fpfmt) ∧ t.idle = true ∧ t.inputs = rest ∧
      t.params = s.params ∧ t.point = s.point ∧ t.trace = s.trace ∧ t.draws = s.draws

/-- R13, R133: the result of an operation depends on its own request word and FPFMT alone, whatever was executed before; of
the operations that are not floating-point, on the word alone. -/
def Obligations.ResultDependsOnTheRequestAlone : Prop :=
  (∀ (i : Instr) (s s' : State), s.params.fpfmt = s'.params.fpfmt →
    ∃ t t' : State, exec i s = .next t ∧ exec i s' = .next t' ∧ t.pending = t'.pending) ∧
  (∀ (i : Instr) (s s' : State), (∀ c : Code, i ≠ .cvtTc c ∧ i ≠ .cvtTf c ∧ i ≠ .cvtRh c) →
    ∃ t t' : State, exec i s = .next t ∧ exec i s' = .next t' ∧ t.pending = t'.pending)

/-- The frame of every operation (R13, R14, R16, R182): `pending` and `rspValid` take the response; only CRC8, VALIDATE and
DECODE run the checksum machine; every other piece of state is unchanged. -/
def Obligations.OperationsChangeNothingElse : Prop :=
  ∀ (i : Instr) (s : State), ∃ t : State, exec i s = .next t ∧
    t.rspValid = true ∧ t.params = s.params ∧ t.reqReady = s.reqReady ∧ t.busy = s.busy ∧ t.held = s.held ∧
    t.point = s.point ∧ t.inputs = s.inputs ∧ t.responses = s.responses ∧ t.trace = s.trace ∧ t.draws = s.draws ∧
    ((∀ (v : Code) (x b0 b1 b2 b3 b4 b5 : Byte), i ≠ .crc8 v ∧ i ≠ .validate v x ∧ i ≠ .decode b0 b1 b2 b3 b4 b5) →
      t.validator = s.validator)

/-- R23 and R25: whatever the number of edges CVC computes for and the host makes it wait, accepting a request, finishing it
and delivering its response at the ports is the one atomic transaction; also when it is finished at the accepting edge. -/
def Obligations.HandshakeRefinesTheTransaction : Prop :=
  ∀ (s : State) (w : ReqWord) (c : Schedule), s.idle = true → s.rspValid = false → c.ok →
    ∃ t : State, transact w s = .next t ∧ clockEdges (c.edges w) s = .next t ∧
      clockEdges ([⟨false, true, w, false, true⟩] ++ c.holding ++ [⟨false, false, 0#56, true, false⟩]) s = .next t

/-- R23, R24: with `rst` low, an idle CVC accepts a presented request and is busy; a busy one accepts nothing, whatever is
presented, and finishes with the answer to the word it accepted; a presented response holds until the host is ready and is
then delivered; an idle CVC without a request stays idle. How many edges the operation takes is free (log 7). The last
clause, that a CVC just out of reset becomes ready at the edge and accepts nothing at it, is the model's choice (log 6). -/
def Obligations.HandshakeMovesAtClockEdges : Prop :=
  (∀ (s : State) (p : Pins), p.rst = false → s.busy = false → s.reqReady = true → p.reqValid = true →
    ∃ t : State, clockEdge p s = .next t ∧ t.busy = true ∧ t.reqReady = false ∧ t.held = p.req ∧
      t.responses = s.responses ∧ (p.done = true → t.rspValid = true ∧ t.pending = answer s.params.fpfmt p.req) ∧
      (p.done = false → t.rspValid = s.rspValid ∧ t.pending = s.pending)) ∧
  (∀ (s : State) (p : Pins), p.rst = false → s.busy = true → s.rspValid = false →
    ∃ t : State, clockEdge p s = .next t ∧ t.held = s.held ∧ t.busy = true ∧ t.reqReady = s.reqReady ∧
      t.responses = s.responses ∧ t.rspValid = p.done ∧
      t.pending = if p.done then answer s.params.fpfmt s.held else s.pending) ∧
  (∀ (s : State) (p : Pins), p.rst = false → s.busy = true → s.rspValid = true → p.rspReady = false →
    clockEdge p s = .next s) ∧
  (∀ (s : State) (p : Pins), p.rst = false → s.busy = true → s.rspValid = true → p.rspReady = true →
    ∃ t : State, clockEdge p s = .next t ∧ t.responses = s.responses ++ [s.pending] ∧ t.busy = false ∧
      t.rspValid = false ∧ t.reqReady = true ∧ t.pending = s.pending) ∧
  (∀ (s : State) (p : Pins), p.rst = false → s.busy = false → s.reqReady = true → p.reqValid = false →
    clockEdge p s = .next s) ∧
  (∀ (s : State) (p : Pins), p.rst = false → s.busy = false → s.reqReady = false →
    clockEdge p s = .next { s with reqReady := true })

/-- R202, R200: reset during an operation abandons it: no response is presented for it, nothing is delivered, and after reset
the same request gets the result it would have got. That the first edge with `rst` low leaves CVC idle whatever is presented
is the model's choice (log 6), and so is that `rst` leaves the trace, the responses and the parameters alone (log 22). -/
def Obligations.ResetAbandonsTheOperation : Prop :=
  ∀ (s : State) (p q : Pins) (w : ReqWord), p.rst = true → q.rst = false →
    ∃ t u v : State, clockEdge p s = .next t ∧ clockEdge q t = .next u ∧ transact w u = .next v ∧
      t.busy = false ∧ t.rspValid = false ∧ t.reqReady = false ∧ t.responses = s.responses ∧
      t.point = s.point ∧ t.trace = s.trace ∧ t.params = s.params ∧ t.inputs = s.inputs ∧
      u.idle = true ∧ u.rspValid = false ∧ u.responses = s.responses ∧
      v.responses = s.responses ++ [answer s.params.fpfmt w]

/-- R206: the one-request-at-a-time hazard is only waited out: with a request at the head of the inputs, CVC becomes idle, the
request still first. That it takes at most two steps is the model's choice (log 18), for R206 and R210 give no bound. -/
def Obligations.WaitingForCvcEnds : Prop :=
  ∀ (s : State) (w : ReqWord) (rest : List Input), s.inputs = .request w :: rest →
    ∃ (k : Nat) (t : State), k ≤ 2 ∧ Sys2Proof.core.run k s = .next t ∧ t.idle = true ∧ t.inputs = s.inputs ∧
      t.params = s.params ∧ t.point = s.point ∧ t.trace = s.trace

/-- R27, R155: what reset leaves: CVC idle with nothing presented, the Orchestrator in Idle. That the parameters are the
constant `Config.build` (log 3) and that the records of responses and events begin empty (log 20) are the model's choices. -/
def Obligations.ResetLeavesCvcIdle : Prop :=
  State.reset.busy = false ∧ State.reset.rspValid = false ∧ State.reset.reqReady = true ∧ State.reset.idle = true ∧
  State.reset.params = Config.build ∧ State.reset.point.orchState = .idle ∧ State.reset.point = .askPup ∧
  State.reset.responses = [] ∧ State.reset.trace = []

/-! ### The Orchestrator (44_session_orchestrator.md) -/

/-- Scenarios H1 and H2 for every pair of codes, every frame, the two conversions in either order and each in either family,
and either source of each command frame (R45, R151 to R154, R156, R164, R165): the calls, sleeps and reports of a cycle whose Transport calls
succeed, and the responses CVC delivered in it. That the report comes before PowerDown is the model's choice (log 23). -/
def Obligations.CycleWithTransportReportsTheReading : Prop :=
  (∀ (s : State) (rest : List Input) (x1 x2 x3 x4 x5 x6 x7 x8 x9 x10 x11 x12 : EnvAnswer) (b0 b1 b2 b3 b4 b5 : Byte),
    s.idle = true → s.point = .askPup →
    s.inputs = [x1, x2, x3, x4, x5, x6, x7, x8, x9, x10, x11, x12].map .host ++ rest →
    x2.ok = true → x5.ok = true → x5.bytes = [b0, b1, b2, b3, b4, b5] → x11.ok = true →
    crc8 (be16 b0 b1) = b2 → crc8 (be16 b3 b4) = b5 →
    ∃ t : State, Sys2Proof.core.run 12 s = .next t ∧ t.point = .askPup ∧ t.idle = true ∧ t.inputs = rest ∧
      t.params = s.params ∧
      t.trace = s.trace ++
        [ .wrote 0x70#8 [0x35#8, 0x17#8] s.params.timeout true,
          .slept (s.params.settleMin + x3.extra),
          .wroteRead 0x70#8 [0x7C#8, 0xA2#8] 6 s.params.timeout (some [b0, b1, b2, b3, b4, b5]),
          .reported (.physicalReading
            (if x7.humidFirst then
              ⟨x8.fixed, x7.fixed, temperatureData s.params.fpfmt x8.fixed (be16 b0 b1),
                humidityData s.params.fpfmt x7.fixed (be16 b3 b4)⟩
            else
              ⟨x7.fixed, x8.fixed, temperatureData s.params.fpfmt x7.fixed (be16 b0 b1),
                humidityData s.params.fpfmt x8.fixed (be16 b3 b4)⟩)),
          .wrote 0x70#8 [0xB0#8, 0x98#8] s.params.timeout true,
          .slept s.params.cycleDelay ] ∧
      t.responses = s.responses ++
        (x1.frameRequests .encPup ++ x4.frameRequests .encMeas ++
          [Instr.decode b0 b1 b2 b3 b4 b5] ++
          (if x7.humidFirst then [humidityRequest x7.fixed (be16 b3 b4), temperatureRequest x8.fixed (be16 b0 b1)]
            else [temperatureRequest x7.fixed (be16 b0 b1), humidityRequest x8.fixed (be16 b3 b4)]) ++
          x10.frameRequests .encPdn).map (answerOf s.params.fpfmt)) ∧
  (∀ (s : State) (rest : List Input) (x1 x2 x3 x4 x5 x6 x7 x8 x9 x10 : EnvAnswer) (b0 b1 b2 b3 b4 b5 : Byte),
    s.idle = true → s.point = .askPup →
    s.inputs = [x1, x2, x3, x4, x5, x6, x7, x8, x9, x10].map .host ++ rest →
    x2.ok = true → x5.ok = true → x5.bytes = [b0, b1, b2, b3, b4, b5] → x9.ok = true →
    ¬(crc8 (be16 b0 b1) = b2 ∧ crc8 (be16 b3 b4) = b5) →
    ∃ t : State, Sys2Proof.core.run 10 s = .next t ∧ t.point = .askPup ∧ t.idle = true ∧ t.inputs = rest ∧
      t.params = s.params ∧
      t.trace = s.trace ++
        [ .wrote 0x70#8 [0x35#8, 0x17#8] s.params.timeout true,
          .slept (s.params.settleMin + x3.extra),
          .wroteRead 0x70#8 [0x7C#8, 0xA2#8] 6 s.params.timeout (some [b0, b1, b2, b3, b4, b5]),
          .reported .checksumError,
          .wrote 0x70#8 [0xB0#8, 0x98#8] s.params.timeout true,
          .slept s.params.cycleDelay ] ∧
      t.responses = s.responses ++
        (x1.frameRequests .encPup ++ x4.frameRequests .encMeas ++ [Instr.decode b0 b1 b2 b3 b4 b5] ++
          x8.frameRequests .encPdn).map (answerOf s.params.fpfmt))

/-- R157 row 1 (scenario H3): after a PowerUp write that fails, the cycle reports `TransportError`, sends no Measure and no
PowerDown, issues no DECODE, and rests (log 13). -/
def Obligations.FailedPowerUpSendsNothingMore : Prop :=
  ∀ (s : State) (rest : List Input) (x1 x2 x3 x4 : EnvAnswer),
    s.idle = true → s.point = .askPup → s.inputs = [x1, x2, x3, x4].map .host ++ rest → x2.ok = false →
    ∃ t : State, Sys2Proof.core.run 4 s = .next t ∧ t.point = .askPup ∧ t.idle = true ∧ t.inputs = rest ∧
      t.params = s.params ∧
      t.trace = s.trace ++
        [ .wrote 0x70#8 [0x35#8, 0x17#8] s.params.timeout false, .reported .transportError,
          .slept s.params.cycleDelay ] ∧
      t.responses = s.responses ++ (x1.frameRequests .encPup).map (answerOf s.params.fpfmt)

/-- R157 row 2 and R179 (scenarios H4 and H6): after a Measure call that fails, or that returns a wrong number of bytes, no
DECODE is issued, the failure is reported under its own name, and PowerDown is still sent. The report comes first by the
model's choice (log 23). -/
def Obligations.FailedMeasureStillPowersDown : Prop :=
  (∀ (s : State) (rest : List Input) (x1 x2 x3 x4 x5 x6 x7 x8 x9 : EnvAnswer),
    s.idle = true → s.point = .askPup → s.inputs = [x1, x2, x3, x4, x5, x6, x7, x8, x9].map .host ++ rest →
    x2.ok = true → x5.ok = false →
    ∃ t : State, Sys2Proof.core.run 8 s = .next t ∧ t.inputs = .host x9 :: rest ∧ t.params = s.params ∧
      t.point = (if x8.ok then .rest true else .reportPdnFail) ∧
      t.trace = s.trace ++
        [ .wrote 0x70#8 [0x35#8, 0x17#8] s.params.timeout true, .slept (s.params.settleMin + x3.extra),
          .wroteRead 0x70#8 [0x7C#8, 0xA2#8] 6 s.params.timeout none, .reported .transportError,
          .wrote 0x70#8 [0xB0#8, 0x98#8] s.params.timeout x8.ok ] ∧
      t.responses = s.responses ++
        (x1.frameRequests .encPup ++ x4.frameRequests .encMeas ++ x7.frameRequests .encPdn).map (answerOf s.params.fpfmt)) ∧
  (∀ (s : State) (rest : List Input) (x1 x2 x3 x4 x5 x6 x7 x8 x9 : EnvAnswer),
    s.idle = true → s.point = .askPup → s.inputs = [x1, x2, x3, x4, x5, x6, x7, x8, x9].map .host ++ rest →
    x2.ok = true → x5.ok = true → x5.bytes.length ≠ 6 →
    ∃ t : State, Sys2Proof.core.run 8 s = .next t ∧ t.inputs = .host x9 :: rest ∧ t.params = s.params ∧
      t.point = (if x8.ok then .rest true else .reportPdnFail) ∧
      t.trace = s.trace ++
        [ .wrote 0x70#8 [0x35#8, 0x17#8] s.params.timeout true, .slept (s.params.settleMin + x3.extra),
          .wroteRead 0x70#8 [0x7C#8, 0xA2#8] 6 s.params.timeout (some x5.bytes), .reported .decodeError,
          .wrote 0x70#8 [0xB0#8, 0x98#8] s.params.timeout x8.ok ] ∧
      t.responses = s.responses ++
        (x1.frameRequests .encPup ++ x4.frameRequests .encMeas ++ x7.frameRequests .encPdn).map (answerOf s.params.fpfmt))

/-- R157 row 3 (scenario H5): a PowerDown write that fails is reported, not repeated, and the cycle goes on to the inter-cycle
delay and the next cycle (log 13). -/
def Obligations.FailedPowerDownIsReportedNotRetried : Prop :=
  ∀ (s : State) (rest : List Input) (x1 x2 x3 x4 : EnvAnswer),
    s.idle = true → s.point = .askPdn → s.inputs = [x1, x2, x3, x4].map .host ++ rest → x2.ok = false →
    ∃ t : State, Sys2Proof.core.run 4 s = .next t ∧ t.point = .askPup ∧ t.idle = true ∧ t.inputs = rest ∧
      t.params = s.params ∧
      t.trace = s.trace ++
        [ .wrote 0x70#8 [0xB0#8, 0x98#8] s.params.timeout false, .reported .transportError,
          .slept s.params.cycleDelay ] ∧
      t.responses = s.responses ++ (x1.frameRequests .encPdn).map (answerOf s.params.fpfmt)

/-- R158: at every moment of the trace, each PowerUp write that succeeded has been followed by exactly one PowerDown attempt,
but for the current cycle while its PowerDown is still due; no PowerDown is attempted otherwise; and each one follows the
Measure call of its own cycle. -/
def Obligations.PowerDownIsAttemptedExactlyOnce : Prop :=
  ∀ s : State, s.Inv →
    s.trace.countP HostEvent.powersUp
      = s.trace.countP HostEvent.attemptsPowerDown + (if s.point.owesPowerDown then 1 else 0) ∧
    (∀ l : List HostEvent, l <+: s.trace →
      l.countP HostEvent.attemptsPowerDown ≤ l.countP HostEvent.powersUp ∧
      l.countP HostEvent.powersUp ≤ l.countP HostEvent.attemptsPowerDown + 1) ∧
    ∀ (l : List HostEvent) (e : HostEvent), l ++ [e] <+: s.trace → e.attemptsPowerDown = true →
      ∃ (before since : List HostEvent) (a : Byte) (c : List Byte) (n : Nat) (d : Duration) (r : Option (List Byte)),
        l = before ++ .wroteRead a c n d r :: since ∧ ∀ x ∈ since, x.powersUp = false ∧ x.attemptsPowerDown = false

/-- R149, R157, R190: each cycle makes exactly one report, and each PowerDown write that fails adds one; nothing is reported
twice and nothing is swallowed, but for a report that is still due. -/
def Obligations.EveryOutcomeIsReportedOnce : Prop :=
  ∀ s : State, s.Inv →
    s.trace.countP HostEvent.isReport + s.point.reportsDue
      = s.trace.countP HostEvent.beginsCycle + s.trace.countP HostEvent.failsPowerDown

/-- R150 to R154, R157 first row, R21: every step leaves the Orchestrator's named state or moves it along Idle, PoweredUp,
Measuring, PoweredDown, Idle, with the event that the cycle prescribes for that move; such an event always moves it; a
PowerUp write that fails leaves it in Idle; and it is out of Idle exactly while the PowerUp write of the cycle has succeeded.
That a failed Measure call moves it to Measuring and a failed PowerDown write to PoweredDown is the model's choice (log 14). -/
def Obligations.OrchestratorMovesAlongItsCycle : Prop :=
  (∀ s t : State, s.Inv → step s = .next t →
    (t.point.orchState = s.point.orchState ∨
      ∃ e : HostEvent, t.trace = s.trace ++ [e] ∧ OrchState.Moves s.params s.point.orchState e t.point.orchState) ∧
    (∀ (e : HostEvent) (o : OrchState), t.trace = s.trace ++ [e] → OrchState.Moves s.params s.point.orchState e o →
      t.point.orchState = o) ∧
    (t.trace = s.trace ++ [.wrote 0x70#8 [0x35#8, 0x17#8] s.params.timeout false] →
      s.point.orchState = .idle ∧ t.point.orchState = .idle)) ∧
  ∀ p : Point, p.powerUpOk = true ↔ p.orchState ≠ .idle

/-! ### Whole-machine rules -/

/-- The invariant holds after reset. -/
def Obligations.ResetMeetsTheInvariant : Prop := State.reset.Inv

/-- The invariant is kept by every step of every agent: the handshake stays in order (R23, R24), what is presented is the
answer to what was accepted (R25), every delivered response is legal (R50, R51), and the host's calls, sleeps and reports
follow the cycle (R150 to R158, R164), with the model's choice of the report before PowerDown (log 23). -/
def Obligations.EveryStepKeepsTheInvariant : Prop :=
  ∀ s : State, s.Inv → ∃ t : State, step s = .next t ∧ t.Inv

/-- No step stops the machine (R59, R150, R182), none changes a parameter (R7, R122), and none takes back a response or an
event already observed (R212). -/
def Obligations.NoStepStopsOrForgets : Prop :=
  ∀ s : State, ∃ t : State, step s = .next t ∧ t.params = s.params ∧ s.responses <+: t.responses ∧ s.trace <+: t.trace

/-- R202 and R26: only the host's own inputs move the Orchestrator: a request or a clock edge, reset or not, leaves its point
and its trace alone. -/
def Obligations.OnlyTheHostMovesTheOrchestrator : Prop :=
  ∀ (s t : State), step s = .next t → (∀ (x : EnvAnswer) (rest : List Input), s.inputs ≠ .host x :: rest) →
    t.point = s.point ∧ t.trace = s.trace

/-! ### The source's contracts and the textual syntax -/

/-- R45: each contract of the source is carried by its operations: `validate` by VALIDATE, `encode` by ENC.*, `decode` by
DECODE, `to_physical` by CVT.TC and CVT.RH. -/
def Obligations.OperationsCarryTheContracts : Prop :=
  (∀ (v : Code) (x : Byte) (s : State), ∃ t : State, exec (.validate v x) s = .next t ∧
    (dataField t.pending = 1#64 ↔ validateContract v x = true)) ∧
  (∀ (c : Command) (s : State), ∃ t : State, exec c.request s = .next t ∧
    wireBytes (dataLo16 (dataField t.pending)) = [(encodeContract c).first, (encodeContract c).second]) ∧
  (∀ (r : RawReading) (s : State), ∃ t : State, exec r.request s = .next t ∧
    match decodeContract r with
    | .ok m => statusField t.pending = 0x00#8 ∧ dataHi16 (dataField t.pending) = m.temp ∧
        dataLo16 (dataField t.pending) = m.humid
    | .error _ => statusCkerr (statusField t.pending) = true ∧ dataField t.pending = 0#64) ∧
  (∀ (m : ValidatedMeasurement) (s : State), ∃ t u : State,
    exec (.cvtTc m.temp) s = .next t ∧ exec (.cvtRh m.humid) s = .next u ∧
    dataField t.pending = fbits s.params.fpfmt (toPhysical s.params.fpfmt m).temp ∧
    dataField u.pending = fbits s.params.fpfmt (toPhysical s.params.fpfmt m).humid)

/-- R57: a request written as text is read back as its word, `.word` spells any word, and a line of any other mnemonic can
only spell a legal request. -/
def Obligations.TextSpellsRequests : Prop :=
  (∀ i : Instr, assembleLine (requestText i) = .request (encode i)) ∧
  (∀ w : ReqWord, assembleLine (wordText w) = .request w) ∧
  (∀ (line : List Char) (w : ReqWord), assembleLine line = .request w →
    (lineWords [] line).head? ≠ some ".word".toList → ∃ i : Instr, decode w = .ok i)
end

