-- ==== Sys2Proof/Tests/Slice0.lean ====
section
/-! SUPPORT. Tests on fixed values, each with the vector of spec/ its expected result comes from, and for every statement of
Certificates/Slice0/Obligations.lean that has hypotheses a concrete state and operands that meet them all. -/

namespace Sys2Proof.Tests

set_option maxRecDepth 100000

open Sys2Proof Sys2Proof.Machine

/-! ### A small machine to test on -/

/-- An idle CVC built for the format `f`, its Orchestrator at the beginning of a cycle, with these inputs. -/
def machine (f : FpFormat) (inputs : List Input) : State where
  params := ⟨f, 100, 2000, 50⟩
  reqReady := true
  busy := false
  rspValid := false
  held := 0#56
  pending := 0#72
  validator := ⟨0x00#8, .hi, 0⟩
  point := .askPup
  inputs := inputs
  responses := []
  trace := []
  draws := 7

/-- What one step delivers for the request word `w`, on a machine of format `f`. -/
def asked (f : FpFormat) (w : ReqWord) : List RspWord :=
  match step (machine f [.request w]) with
  | .next t => t.responses
  | .fault _ => []
  | .refused _ => []

/-- A busy machine in the middle of an operation, with a request already waiting. -/
def busyMachine (rspValid : Bool) : State :=
  { machine .binary32 [.request 0x10000000000000#56] with busy := true, reqReady := false, rspValid := rspValid }

/-- An answer of the environment. -/
def env (ok : Bool) (bytes : List Byte) : EnvAnswer := ⟨ok, bytes, 3, false, false, false⟩

/-- The machine at a point of the cycle, with what the host has done so far. -/
def hostMachine (p : Point) (trace : List HostEvent) (inputs : List Input) : State :=
  { machine .binary32 inputs with point := p, trace := trace }

/-! ### Encodings (30_encoding.md section 8, 95_test_vectors.md section 7) -/

-- the smoke test of WellFormed: one ill-formed term for each check
theorem test_opListed_refuses_zero_word : opListed 0x00000000000000#56 = false := by decide
theorem test_opListed_refuses_op_03 : opListed 0x03000000000000#56 = false := by decide
theorem test_mbzClear_refuses_bit_16 : mbzClear 0x0100000001BEEF#56 = false := by decide
theorem test_mbzClear_refuses_bit_47 : mbzClear 0x12800000000000#56 = false := by decide
theorem test_legalRequest_refuses : legalRequest 0x02000001BEEF92#56 = false := by decide
theorem test_legalRequest_accepts : legalRequest 0x02000000BEEF92#56 = true := by decide
theorem test_frameLengthOk_refuses : frameLengthOk [0x66#8, 0x4C#8, 0xCE#8, 0x7A#8, 0x30#8] = false := by decide
theorem test_row_selects : (OpRow.selects ⟨"DECODE", 0x20#8, 0x20000000000000#56, 0xFF000000000000#56⟩
    0x20FFFFFFFFFFFF#56) = true := by decide

-- every constructor from a word of section 8, written out byte by byte: OP, then ARG from bit 47 down
theorem test_decode_crc8 :
    decode (0x01#8 ++ (0x00#8 ++ (0x00#8 ++ (0x00#8 ++ (0x00#8 ++ (0xBE#8 ++ 0xEF#8)))))) = .ok (.crc8 0xBEEF#16) := by
  decide
theorem test_decode_validate :
    decode (0x02#8 ++ (0x00#8 ++ (0x00#8 ++ (0x00#8 ++ (0xBE#8 ++ (0xEF#8 ++ 0x92#8))))))
      = .ok (.validate 0xBEEF#16 0x92#8) := by decide
theorem test_decode_encPup : decode 0x10000000000000#56 = .ok .encPup := by decide
theorem test_decode_encPdn : decode 0x11000000000000#56 = .ok .encPdn := by decide
theorem test_decode_encMeas : decode 0x12000000000000#56 = .ok .encMeas := by decide
theorem test_decode_decode :
    decode (0x20#8 ++ (0x66#8 ++ (0x4C#8 ++ (0xCE#8 ++ (0x7A#8 ++ (0x30#8 ++ 0x91#8))))))
      = .ok (.decode 0x66#8 0x4C#8 0xCE#8 0x7A#8 0x30#8 0x91#8) := by decide
theorem test_decode_cvtTc : decode 0x3000000000664C#56 = .ok (.cvtTc 0x664C#16) := by decide
theorem test_decode_cvtTf : decode 0x3100000000664C#56 = .ok (.cvtTf 0x664C#16) := by decide
theorem test_decode_cvtRh : decode 0x32000000007A30#56 = .ok (.cvtRh 0x7A30#16) := by decide
theorem test_decode_cvtxTc : decode 0x3800000000664C#56 = .ok (.cvtxTc 0x664C#16) := by decide
theorem test_decode_cvtxTf : decode 0x3900000000664C#56 = .ok (.cvtxTf 0x664C#16) := by decide
theorem test_decode_cvtxRh : decode 0x3A000000007A30#56 = .ok (.cvtxRh 0x7A30#16) := by decide
theorem test_decode_reserved : decode 0x21664CCE7A3091#56 = .error (.reservedOp 0x21#8) := by decide
theorem test_decode_mbz : decode 0x32000100007A30#56 = .error (.mbzSet 0x32#8) := by decide
theorem test_encode_validate : encode (.validate 0xBEEF#16 0x92#8) = 0x02000000BEEF92#56 := by decide
theorem test_tableWord : decodeTableWord 56 0x0100000000BEEF = some (.crc8 0xBEEF#16) := by decide

/-! ### One request each (95_test_vectors.md sections 2 to 6) -/

theorem test_crc8_beef : asked .binary32 0x0100000000BEEF#56 = [0x00#8 ++ 0x92#64] := by decide
theorem test_crc8_zero_checksum : asked .binary32 0x010000000000AC#56 = [0x00#8 ++ 0x00#64] := by decide
theorem test_validate_match : asked .binary32 0x0200000000AC00#56 = [0x00#8 ++ 1#64] := by decide
theorem test_validate_bytes_swapped : asked .binary32 0x02000000EFBE92#56 = [0x00#8 ++ 0#64] := by decide
theorem test_encPup : asked .binary32 0x10000000000000#56 = [0x00#8 ++ 0x3517#64] := by decide
theorem test_encPdn : asked .binary64 0x11000000000000#56 = [0x00#8 ++ 0xB098#64] := by decide
theorem test_encMeas : asked .binary32 0x12000000000000#56 = [0x00#8 ++ 0x7CA2#64] := by decide
theorem test_decode_good_frame : asked .binary32 0x20664CCE7A3091#56 = [0x00#8 ++ 0x664C7A30#64] := by decide
theorem test_decode_bad_temperature : asked .binary32 0x20664C0F7A3091#56 = [0x06#8 ++ 0#64] := by decide
theorem test_cvtTc_binary32 : asked .binary32 0x3000000000664C#56 = [0x00#8 ++ 0x41C771D0#64] := by decide
theorem test_cvtTc_binary64 : asked .binary64 0x300000000041D4#56 = [0x00#8 ++ 0x3F39001900180000#64] := by decide
theorem test_cvtTf_binary32 : asked .binary32 0x3100000000664C#56 = [0x00#8 ++ 0x4299C004#64] := by decide
theorem test_cvtTf_binary64 : asked .binary64 0x3100000000664C#56 = [0x00#8 ++ 0x4053380078007802#64] := by decide
theorem test_cvtRh_binary32 : asked .binary32 0x32000000007A30#56 = [0x00#8 ++ 0x423EEBBF#64] := by decide
theorem test_cvtRh_binary64 : asked .binary64 0x32000000008000#56 = [0x00#8 ++ 0x4049001900190019#64] := by decide
theorem test_cvtxTc_negative : asked .binary32 0x38000000000000#56 = [0x00#8 ++ 0x00000000FFD30000#64] := by decide
theorem test_cvtxTc_first_positive : asked .binary32 0x380000000041D4#56 = [0x00#8 ++ 0x19#64] := by decide
theorem test_cvtxTf_negative : asked .binary32 0x39000000000000#56 = [0x00#8 ++ 0x00000000FFCF0000#64] := by decide
theorem test_cvtxTf : asked .binary32 0x3900000000664C#56 = [0x00#8 ++ 0x4CE001#64] := by decide
theorem test_cvtxRh : asked .binary32 0x3A000000007A30#56 = [0x00#8 ++ 0x2FBAEF#64] := by decide
theorem test_cvtxRh_end : asked .binary32 0x3A00000000FFFF#56 = [0x00#8 ++ 0x640000#64] := by decide
theorem test_illegal_word : asked .binary32 0x11000000003517#56 = [0x01#8 ++ 0#64] := by decide
-- a fetched request runs as the first step after reset (log 1), whatever the block was built with
theorem test_withFetchWord : ∃ t, step (State.reset.withFetchWord 56 0x0100000000BEEF) = .next t ∧
    t.responses = [0x00#8 ++ 0x92#64] := ⟨_, rfl, by decide⟩

/-! ### Text (30_encoding.md R57) -/

theorem test_text_validate : assembleLine "VALIDATE 0xBEEF, 0x92 ; match".toList = .request 0x02000000BEEF92#56 := by
  decide
theorem test_text_decode : assembleLine "DECODE 66 4C CE 7A 30 91".toList = .request 0x20664CCE7A3091#56 := by decide
theorem test_text_word : assembleLine ".word 0x0100000001BEEF".toList = .request 0x0100000001BEEF#56 := by decide
theorem test_text_small_digits : assembleLine "CRC8 0xbEeF".toList = .request 0x0100000000BEEF#56 := by decide
theorem test_text_rejects_letter : assembleLine "CRC8 0xBEEG".toList = .malformed := by decide
theorem test_text_rejects_17_bits : assembleLine "CRC8 0x1BEEF".toList = .malformed := by decide

/-! ### The host's cycle and reset (95_test_vectors.md section 9, R157, R200) -/

/-- H3, step 1: a failed PowerUp write leaves the Orchestrator in Idle. -/
theorem test_failed_powerUp_stays_idle :
    ∃ t, step (hostMachine (.sendPup 0x3517#16) [] [.host (env false [])]) = .next t ∧
      t.point = .reportPupFail ∧ t.point.orchState = .idle ∧ t.trace = [.wrote 0x70#8 [0x35#8, 0x17#8] 50 false] :=
  ⟨_, rfl, by decide⟩

/-- R165: a host with its own constants sends R90's frame without a request, also while CVC is busy. -/
theorem test_own_frame_needs_no_request :
    ∃ t, step { busyMachine false with inputs := [.host { env true [] with ownFrame := true }] } = .next t ∧
      t.point = .sendPup 0x3517#16 ∧ t.busy = true ∧ t.responses = [] := ⟨_, rfl, by decide⟩

/-- R165: a temperature from CVTX.TC may be reported beside a humidity from CVT.RH. -/
theorem test_families_may_differ :
    ∃ t, step (hostMachine (.askHumid true 0x18EE39#64 0x7A30#16) [] [.host (env true [])]) = .next t ∧
      t.point = .reportReading ⟨true, false, 0x18EE39#64, 0x423EEBBF#64⟩ := ⟨_, rfl, by decide⟩

/-- R45: the humidity may be converted first. -/
theorem test_humidity_first :
    ∃ t, step (hostMachine (.convert 0x664C#16 0x7A30#16) [] [.host { env true [] with humidFirst := true }]) = .next t ∧
      t.point = .askTemp false 0x423EEBBF#64 0x664C#16 := ⟨_, rfl, by decide⟩

/-- H6: a read of five bytes is reported and not decoded. -/
theorem test_short_read_is_not_decoded :
    ∃ t, step (hostMachine (.haveBytes [0x66#8, 0x4C#8, 0xCE#8, 0x7A#8, 0x30#8]) [] [.host (env true [])]) = .next t ∧
      t.point = .askPdn ∧ t.trace = [.reported .decodeError] ∧ t.responses = [] := ⟨_, rfl, by decide⟩

/-- R200: with `rst` high a busy CVC drops its operation, and is not ready. -/
theorem test_reset_edge :
    ∃ t, clockEdge ⟨true, true, 0#56, true, true⟩ (busyMachine true) = .next t ∧
      t.busy = false ∧ t.rspValid = false ∧ t.reqReady = false ∧ t.responses = [] := ⟨_, rfl, by decide⟩

/-! ### The hypotheses of the statements are met -/

theorem witness_EncodeInvertsDecode : decode 0x02FFFFFF000000#56 = .error (.mbzSet 0x02#8) ∧
    decode 0x02000000FFFFFF#56 = .ok (.validate 0xFFFF#16 0xFF#8) := by decide

-- one word that two rows could be asked about, one that a row selects, one that none selects
theorem witness_OpcodeMapPartitionsRequestWords :
    (∃ r ∈ opcodeRows, r.selects 0x3A00000000FFFF#56 = true ∧ r.mnemonic = "CVTX.RH") ∧
    (∀ r ∈ opcodeRows, r.selects 0x3A00000001FFFF#56 = false) := by decide

theorem witness_ReservedOpIsAnsweredIllegal :
    reservedOp (opField 0x03000000000000#56) = true ∧ reservedOp (opField 0xFFFFFFFFFFFFFF#56) = true ∧
    reservedOp 0x3A#8 = false ∧ reservedOp 0x3B#8 = true ∧ reservedOp 0x0F#8 = true ∧ reservedOp 0x10#8 = false := by decide

-- the lowest and the highest must-be-zero bit of each format
theorem witness_MbzBitSetIsAnsweredIllegal :
    (opField 0x0100000001BEEF#56 ∈ [0x01#8, 0x30#8, 0x31#8, 0x32#8, 0x38#8, 0x39#8, 0x3A#8] ∧
      (argField 0x0100000001BEEF#56).extractLsb' 16 32 ≠ 0#32) ∧
    (argField 0x0180000000BEEF#56).extractLsb' 16 32 ≠ 0#32 ∧
    (opField 0x02000001BEEF92#56 = 0x02#8 ∧ (argField 0x02000001BEEF92#56).extractLsb' 24 24 ≠ 0#24) ∧
    (opField 0x10000000000001#56 ∈ [0x10#8, 0x11#8, 0x12#8] ∧ argField 0x10000000000001#56 ≠ 0#48) ∧
    opField 0x20FFFFFFFFFFFF#56 = 0x20#8 := by decide

theorem witness_IllegalRequestChangesNothing : decode 0x00000000000000#56 = .error (.reservedOp 0x00#8) ∧
    decode 0x0180000000BEEF#56 = .error (.mbzSet 0x01#8) := by decide

-- each STATUS occurs
theorem witness_StatusSaysWhatHappened :
    asked .binary32 0x20664CCE7A3091#56 = [0x00#8 ++ 0x664C7A30#64] ∧ asked .binary32 0#56 = [0x01#8 ++ 0#64] ∧
    asked .binary32 0x20664C0F7A3091#56 = [0x06#8 ++ 0#64] ∧ asked .binary32 0x20664CCE7A3090#56 = [0x0A#8 ++ 0#64] ∧
    asked .binary32 0x20000000000000#56 = [0x0E#8 ++ 0#64] ∧
    decode 0x02000000BEEF93#56 = .ok (.validate 0xBEEF#16 0x93#8) ∧ crc8 0xBEEF#16 ≠ 0x93#8 := by decide

theorem witness_WireOrderIsKeptInsideTheWords :
    decode 0x20664CCE7A3091#56 = .ok (.decode 0x66#8 0x4C#8 0xCE#8 0x7A#8 0x30#8 0x91#8) ∧
    decode (0x02#8 ++ (0#24 ++ (argField 0x20664CCE7A3091#56).extractLsb' 0 24)) = .ok (.validate 0x7A30#16 0x91#8) := by
  decide

-- FormatR, FormatV, FormatN, FormatF: both clauses of each, with the operand at its ends
theorem witness_Formats :
    (opField 0x0100000000FFFF#56 = 0x01#8 ∧ (argField 0x0100000000FFFF#56).extractLsb' 16 32 = 0#32) ∧
    (opField 0x01000000010000#56 = 0x01#8 ∧ (argField 0x01000000010000#56).extractLsb' 16 32 ≠ 0#32) ∧
    (opField 0x02000000FFFFFF#56 = 0x02#8 ∧ (argField 0x02000000FFFFFF#56).extractLsb' 24 24 = 0#24) ∧
    (opField 0x02000001000000#56 = 0x02#8 ∧ (argField 0x02000001000000#56).extractLsb' 24 24 ≠ 0#24) ∧
    (opField 0x12000000000000#56 = 0x12#8 ∧ argField 0x12000000000000#56 = 0#48) ∧
    (opField 0x12800000000000#56 = 0x12#8 ∧ argField 0x12800000000000#56 ≠ 0#48) ∧
    opField 0x20000000000000#56 = 0x20#8 := by decide

theorem witness_ValidateRespondsWithTheComparison : (0x93#8 : Byte) ≠ crc8 0xBEEF#16 ∧ (0x12#8 : Byte) ≠ crc8 0xBEEF#16 := by
  decide

theorem witness_SerialMachineComputesTheChecksum :
    (0 : Nat) < 17 ∧ (16 : Nat) < 17 ∧ serialFinished (Nat.iterate (serialStep 0xBEEF#16) 16 (serialStart 0xBEEF#16)) = false ∧
    (Nat.iterate (serialStep 0xBEEF#16) 8 (serialStart 0xBEEF#16)).acc = 0x0C#8 := by decide

theorem witness_ChecksumStepIsABijection :
    crc8 (be16 0xBE#8 0xEF#8) = 0x92#8 ∧ (0xBF#8 : Byte) ≠ 0xBE#8 ∧ (0xEE#8 : Byte) ≠ 0xEF#8 ∧ (0x93#8 : Byte) ≠ 0x92#8 := by
  decide

theorem witness_SmallErrorPatternsAreDetected :
    crc8 0xBEEF#16 = 0x92#8 ∧ flippedBits 0x000001#24 = 1 ∧ flippedBits 0x800001#24 = 2 ∧ flippedBits 0x800101#24 = 3 ∧
    flippedBits 0xFFFFFE#24 % 2 = 1 ∧ flippedBits 0x000131#24 = 4 := by decide

-- the four cases of DECODE
theorem witness_DecodeRespondsWithBothValuesOrNeither :
    (crc8 (be16 0x66#8 0x4C#8) = 0xCE#8 ∧ crc8 (be16 0x7A#8 0x30#8) = 0x91#8) ∧
    (crc8 (be16 0x66#8 0x4C#8) ≠ 0x0F#8 ∧ crc8 (be16 0x7A#8 0x30#8) = 0x91#8) ∧
    (crc8 (be16 0x66#8 0x4C#8) = 0xCE#8 ∧ crc8 (be16 0x7A#8 0x30#8) ≠ 0x90#8) ∧
    (crc8 (be16 0x00#8 0x00#8) ≠ 0x00#8 ∧ crc8 (be16 0x00#8 0x00#8) ≠ 0x00#8) := by decide

-- the last byte of each field replaced
theorem witness_FrameRoundTripAndSingleByteCorruption :
    [hi8 0x664C#16, lo8 0x664C#16, crc8 0x664C#16, hi8 0x7A30#16, lo8 0x7A30#16, crc8 0x7A30#16][2]? ≠ some 0x0F#8 ∧
    [hi8 0x664C#16, lo8 0x664C#16, crc8 0x664C#16, hi8 0x7A30#16, lo8 0x7A30#16, crc8 0x7A30#16][3]? ≠ some 0x7B#8 := by
  decide

-- the last code below zero and the first above, in both formats
theorem witness_CvtTcThresholds : (0x41D3#16 : Code).toNat ≤ 0x41D3 ∧ 0x41D4 ≤ (0x41D4#16 : Code).toNat ∧
    (celsius .binary32 0x41D3#16).mant < 0 ∧ 0 < (celsius .binary32 0x41D4#16).mant ∧
    (celsius .binary64 0x41D3#16).mant < 0 ∧ 0 < (celsius .binary64 0x41D4#16).mant := by decide

theorem witness_CvtTfThresholds : (0x27D2#16 : Code).toNat ≤ 0x27D2 ∧ 0x27D3 ≤ (0x27D3#16 : Code).toNat ∧
    (fahrenheit .binary32 0x27D2#16).mant < 0 ∧ 0 < (fahrenheit .binary32 0x27D3#16).mant ∧
    (fahrenheit .binary64 0x27D2#16).mant < 0 ∧ 0 < (fahrenheit .binary64 0x27D3#16).mant := by decide

theorem witness_CvtxThresholds : celsiusFixed 0x41D3#16 < 0 ∧ 0 < celsiusFixed 0x41D4#16 ∧
    fahrenheitFixed 0x27D2#16 < 0 ∧ 0 < fahrenheitFixed 0x27D3#16 := by decide

theorem witness_ConversionsAreStrictlyIncreasing : (0x7FFF#16 : Code).toNat < (0x8000#16 : Code).toNat ∧
    (0xFFFE#16 : Code) ≠ 0xFFFF#16 ∧ celsiusFixed 0xFFFE#16 < celsiusFixed 0xFFFF#16 := by decide

-- both sides of the disjunction
theorem witness_IntegerValuedCodesTellTheFormatsApart : FpFormat.binary64 = .binary64 ∧ (0x6666#16 : Code) ≠ 0x9999#16 ∧
    celsius .binary32 0x6666#16 = ⟨13107200, -19⟩ ∧ fahrenheit .binary64 0x9999#16 = ⟨4925812092436480, -45⟩ := by decide

-- a divisor that is not zero, and a tie: 1/2 of the last place above 2^24 rounds down to the even significand
theorem witness_ArithmeticRoundsOnceToNearestEven :
    (fcvt .binary32 65535).mant ≠ 0 ∧ fround .binary32 16777217 1 0 = fround .binary32 16777216 1 0 ∧
    fround .binary32 16777219 1 0 = fround .binary32 16777220 1 0 := by decide

theorem witness_SmallIntegersAreExact : (-45 : Int).natAbs < 2 ^ 24 ∧ (16777215 : Int).natAbs < 2 ^ 24 := by decide

theorem witness_PatternStandsForItsValue :
    0 < (65535 : Nat) ∧ |(fround .binary32 1 1 0).value| < (2 : ℚ) ^ (fpBias .binary32 + 1) := by
  refine ⟨by decide, ?_⟩
  rw [show (fround .binary32 1 1 0) = ⟨8388608, -23⟩ by decide]
  norm_num [Fp.value, fpBias, fpExpBits]

/-- The two states a request can find: CVC idle, and CVC still busy. -/
theorem witness_StepRunsTheDecodedRequest :
    ((machine .binary32 [.request 0x10000000000000#56]).idle = true ∧ decode 0x10000000000000#56 = .ok .encPup) ∧
    ((busyMachine true).inputs = [.request 0x10000000000000#56] ∧ (busyMachine true).idle = false) := by decide

theorem witness_StepAnswersExecOfTheRequest :
    (machine .binary64 [.request 0x00000000000000#56]).inputs = [.request 0x00000000000000#56] ∧
    (machine .binary64 [.request 0x00000000000000#56]).idle = true := by decide

theorem witness_RunIsTheElementwiseImageOfItsRequests :
    (machine .binary32 ([0x0100000000BEEF#56, 0#56].map .request ++ [])).idle = true := by decide

theorem witness_ResultDependsOnTheRequestAlone :
    (machine .binary32 []).params.fpfmt = (busyMachine false).params.fpfmt ∧
    (∀ c : Code, Instr.cvtxTc 0x664C#16 ≠ .cvtTc c ∧ Instr.cvtxTc 0x664C#16 ≠ .cvtTf c ∧ Instr.cvtxTc 0x664C#16 ≠ .cvtRh c) :=
  ⟨by decide, fun _ => ⟨nofun, nofun, nofun⟩⟩

theorem witness_OperationsChangeNothingElse :
    ∀ (v : Code) (x b0 b1 b2 b3 b4 b5 : Byte),
      Instr.encPup ≠ .crc8 v ∧ Instr.encPup ≠ .validate v x ∧ Instr.encPup ≠ .decode b0 b1 b2 b3 b4 b5 :=
  fun _ _ _ _ _ _ _ _ => ⟨nofun, nofun, nofun⟩

/-- Two edges of computing, one of holding, with another request presented all the while. -/
def schedule : Schedule :=
  ⟨[⟨false, true, 0#56, true, false⟩, ⟨false, true, 0#56, false, false⟩], [⟨false, true, 0#56, false, true⟩]⟩

theorem witness_HandshakeRefinesTheTransaction :
    (machine .binary32 []).idle = true ∧ (machine .binary32 []).rspValid = false ∧ schedule.ok := by
  refine ⟨by decide, by decide, ?_⟩
  unfold Schedule.ok
  decide

/-- One pair of pins and state for each clause. -/
theorem witness_HandshakeMovesAtClockEdges :
    (machine .binary32 []).busy = false ∧ (machine .binary32 []).reqReady = true ∧
    (busyMachine false).busy = true ∧ (busyMachine false).rspValid = false ∧
    (busyMachine true).busy = true ∧ (busyMachine true).rspValid = true ∧
    { machine .binary32 [] with reqReady := false }.busy = false ∧
    { machine .binary32 [] with reqReady := false }.reqReady = false := by decide

theorem witness_ResetAbandonsTheOperation :
    (⟨true, true, 0#56, true, true⟩ : Pins).rst = true ∧ (⟨false, true, 0#56, true, true⟩ : Pins).rst = false := by decide

theorem witness_WaitingForCvcEnds : (busyMachine false).inputs = .request 0x10000000000000#56 :: [] ∧
    (busyMachine false).idle = false := by decide

/-- A whole cycle of answers, the Measure call returning these bytes: good (H1), bad (H2), of a wrong length (H6). -/
def cycleAnswers (n : Nat) (bytes : List Byte) : List Input := (List.replicate n (env true bytes)).map .host

theorem witness_CycleWithTransportReportsTheReading :
    let good : List Byte := [0x66#8, 0x4C#8, 0xCE#8, 0x7A#8, 0x30#8, 0x91#8]
    (machine .binary32 (cycleAnswers 12 good)).idle = true ∧ (machine .binary32 (cycleAnswers 12 good)).point = .askPup ∧
    (env true good).ok = true ∧ 
    (machine .binary32 ((List.replicate 12 { env true good with fixed := true, humidFirst := true, ownFrame := true }).map .host)).idle = true ∧
    crc8 (be16 0x66#8 0x4C#8) = 0xCE#8 ∧ crc8 (be16 0x7A#8 0x30#8) = 0x91#8 ∧
    ¬(crc8 (be16 0x66#8 0x4C#8) = 0x0F#8 ∧ crc8 (be16 0x7A#8 0x30#8) = 0x91#8) := by decide

theorem witness_FailedTransport :
    (env false []).ok = false ∧ (machine .binary32 []).point = .askPup ∧ (env true []).bytes.length ≠ 6 ∧
    (env true [0x66#8, 0x4C#8, 0xCE#8, 0x7A#8, 0x30#8, 0x91#8, 0x00#8]).bytes.length ≠ 6 ∧
    (hostMachine .askPdn [] []).idle = true ∧ (hostMachine .askPdn [] []).point = .askPdn := by decide

/-- A state in the middle of a cycle, and of an operation, that meets the invariant: powered up, ENC.MEAS accepted. -/
theorem witness_Inv :
    { hostMachine .askMeas
        [.wrote 0x70#8 [0x35#8, 0x17#8] 50 true, .slept 103] [] with
      busy := true, reqReady := false, held := 0x12000000000000#56, responses := [0x00#8 ++ 0x3517#64] }.Inv where
  validWhileBusy := fun h => nomatch h
  busyNotReady := fun _ => rfl
  pendingAnswers := fun h => nomatch h
  responsesLegal := by
    intro r h
    rw [List.mem_singleton.mp h]
    exact ⟨.inl (by decide), fun h => absurd (by decide) h⟩
  cycle := ⟨.settled, ((CycleTrace.start.snoc .powerUp).snoc (.settle 103 (by decide))), rfl⟩

/-- The failed PowerUp write of R157 row 1 from a state that meets the invariant, and a step that moves the named state. -/
theorem witness_OrchestratorMovesAlongItsCycle :
    (hostMachine (.sendPup 0x3517#16) [] [.host (env false [])]).Inv ∧
    (∃ t, step (hostMachine (.sendPup 0x3517#16) [] [.host (env false [])]) = .next t ∧
      t.trace = [] ++ [.wrote 0x70#8 [0x35#8, 0x17#8] 50 false] ∧ t.point.orchState = .idle) ∧
    (∃ t, step (hostMachine (.sendPup 0x3517#16) [] [.host (env true [])]) = .next t ∧
      OrchState.Moves ⟨.binary32, 100, 2000, 50⟩ .idle (.wrote 0x70#8 [0x35#8, 0x17#8] 50 true) t.point.orchState) :=
  ⟨⟨nofun, nofun, nofun, nofun, .ready, .start, rfl, rfl⟩,
    ⟨_, rfl, by decide⟩, ⟨_, rfl, .powerUp⟩⟩

theorem witness_OnlyTheHostMovesTheOrchestrator :
    (∃ t, step (machine .binary32 [.edge ⟨true, false, 0#56, false, false⟩]) = .next t) ∧
    ∀ (x : EnvAnswer) (rest : List Input),
      (machine .binary32 [.edge ⟨true, false, 0#56, false, false⟩]).inputs ≠ .host x :: rest :=
  ⟨⟨_, rfl⟩, fun _ _ h => nomatch (List.cons.inj h).1⟩

theorem witness_TextSpellsRequests :
    assembleLine "CVT.RH 0x7A30".toList = .request 0x32000000007A30#56 ∧
    (lineWords [] "CVT.RH 0x7A30".toList).head? ≠ some ".word".toList := by decide

end Sys2Proof.Tests
end

section
/-! SUPPORT. Decoding an encoded request gives the request back (R46 to R48, R52, R59). -/

namespace Sys2Proof

/-- A format R word decodes to its code (R47). -/
theorem decodeR_code (op : Byte) (c : Code) (i : Code → Instr) : decodeR op (0#32 ++ c) i = .ok (i c) := by
  rw [decodeR, if_pos (extract_hi_append 0#32 c)]
  exact congrArg (fun x => Except.ok (i x)) (extract_lo_append 0#32 c)

/-- A format V word decodes to its value and its expected byte (R47). -/
theorem decodeV_value_expected (op : Byte) (v : Code) (e : Byte) (i : Code → Byte → Instr) :
    decodeV op (0#24 ++ (v ++ e)) i = .ok (i v e) := by
  have hv : valueField (0#24 ++ (v ++ e)) = v := extract_mid_append₃ 0#24 v e
  have he : expectedField (0#24 ++ (v ++ e)) = e := extract_lo_append₃ 0#24 v e
  rw [decodeV, if_pos (extract_hi_append 0#24 (v ++ e)), hv, he]

/-- Each of six bytes stands in its own eight bits of their concatenation, the first on top. -/
theorem extract_six_bytes (b0 b1 b2 b3 b4 b5 : Byte) :
    (b0 ++ (b1 ++ (b2 ++ (b3 ++ (b4 ++ b5))))).extractLsb' 40 8 = b0 ∧
    (b0 ++ (b1 ++ (b2 ++ (b3 ++ (b4 ++ b5))))).extractLsb' 32 8 = b1 ∧
    (b0 ++ (b1 ++ (b2 ++ (b3 ++ (b4 ++ b5))))).extractLsb' 24 8 = b2 ∧
    (b0 ++ (b1 ++ (b2 ++ (b3 ++ (b4 ++ b5))))).extractLsb' 16 8 = b3 ∧
    (b0 ++ (b1 ++ (b2 ++ (b3 ++ (b4 ++ b5))))).extractLsb' 8 8 = b4 ∧
    (b0 ++ (b1 ++ (b2 ++ (b3 ++ (b4 ++ b5))))).extractLsb' 0 8 = b5 := by
  simp (disch := omega) only [BitVec.extractLsb'_append_eq_of_add_le, BitVec.extractLsb'_append_eq_left,
    BitVec.extractLsb'_eq_self, and_true]

/-- A format F word decodes to its six bytes (R48). -/
theorem decodeF_bytes (b0 b1 b2 b3 b4 b5 : Byte) :
    decodeF (b0 ++ (b1 ++ (b2 ++ (b3 ++ (b4 ++ b5))))) = .decode b0 b1 b2 b3 b4 b5 := by
  rw [decodeF, Instr.decode.injEq]
  exact extract_six_bytes b0 b1 b2 b3 b4 b5

/-- Decoding an encoded operation gives it back. -/
theorem decode_encode (i : Instr) : decode (encode i) = .ok i := by
  cases i with
  | validate v e => simpa [decode, encode] using decodeV_value_expected 0x02#8 v e .validate
  | encPup | encPdn | encMeas => decide
  | decode b0 b1 b2 b3 b4 b5 => simpa [decode, encode] using decodeF_bytes b0 b1 b2 b3 b4 b5
  | _ => simp [decode, encode, encodeR, decodeR_code]

end Sys2Proof
end

section
/-! SUPPORT. What CVC makes of a request, as total functions: `exec`, `complete` and `transact` always answer a next state, and
its response is the pure function of the contracts (R9, R25, R59). -/

namespace Sys2Proof.Machine

/-- A response word is its STATUS and its DATA (R49). -/
@[simp] theorem statusField_append_dataField (r : RspWord) : statusField r ++ dataField r = r :=
  append_extract (m := 8) (n := 64) r

@[simp] theorem State.withValidator_self (s : State) : s.withValidator s.validator = s := rfl

/-- The answer of a DECODE whose two fields pass (R102). -/
theorem answerOf_decode_pass (f : FpFormat) {b0 b1 b2 b3 b4 b5 : Byte} (ht : crc8 (be16 b0 b1) = b2)
    (hh : crc8 (be16 b3 b4) = b5) :
    answerOf f (.decode b0 b1 b2 b3 b4 b5) = statusOk ++ (0#32 ++ (be16 b0 b1 ++ be16 b3 b4)) := by
  simp [answerOf, decodeContract, validateContract, ht, hh]

/-- The answer of a DECODE of which a field fails (R105, R176). -/
theorem answerOf_decode_fail (f : FpFormat) {b0 b1 b2 b3 b4 b5 : Byte}
    (h : ¬(crc8 (be16 b0 b1) = b2 ∧ crc8 (be16 b3 b4) = b5)) :
    answerOf f (.decode b0 b1 b2 b3 b4 b5)
      = (Error.checksum (crc8 (be16 b0 b1) != b2) (crc8 (be16 b3 b4) != b5)).status ++ 0#64 := by
  simp [answerOf, decodeContract, validateContract, h, bne]

/-- The two checksums of a DECODE leave the working values of the second behind (log 8). -/
theorem State.computeChecksum_computeChecksum (v w : Code) (s : State) :
    (s.computeChecksum v).computeChecksum w = s.withValidator (serialEnd w) := rfl

/-- DECODE responds with the pure function of its bytes (R102). -/
theorem execDecode_eq (b0 b1 b2 b3 b4 b5 : Byte) (s : State) :
    execDecode b0 b1 b2 b3 b4 b5 s = .next ((s.withValidator (serialEnd (be16 b3 b4))).respond
      (statusField (answerOf s.params.fpfmt (.decode b0 b1 b2 b3 b4 b5)))
      (dataField (answerOf s.params.fpfmt (.decode b0 b1 b2 b3 b4 b5)))) := by
  by_cases h : crc8 (be16 b0 b1) = b2 ∧ crc8 (be16 b3 b4) = b5
  · obtain ⟨ht, hh⟩ := h
    simp [execDecode, answerOf_decode_pass, State.computeChecksum_computeChecksum, ht, hh]
  · have hbad : crc8 (be16 b0 b1) ≠ b2 ∨ crc8 (be16 b3 b4) ≠ b5 := Decidable.not_and_iff_or_not.mp h
    simp [execDecode, answerOf_decode_fail _ h, State.computeChecksum_computeChecksum, State.raise, hbad]

/-- A meaning runs the checksum machine or leaves it alone, and responds with the pure function of its operation. -/
theorem exec_eq (i : Instr) (s : State) :
    exec i s = .next ((s.withValidator (validatorAfter i s.validator)).respond
      (statusField (answerOf s.params.fpfmt i)) (dataField (answerOf s.params.fpfmt i))) := by
  cases i with
  | crc8 c => simp [exec, execCrc8, answerOf, validatorAfter, State.computeChecksum]
  | validate v e => simp [exec, execValidate, answerOf, validatorAfter, State.computeChecksum, validateContract]
  | decode b0 b1 b2 b3 b4 b5 => exact execDecode_eq b0 b1 b2 b3 b4 b5 s
  | encPup | encPdn | encMeas =>
    simp [exec, execEncPup, execEncPdn, execEncMeas, answerOf, validatorAfter, Command.word]
  | cvtTc c | cvtTf c | cvtRh c => simp [exec, execCvtTc, execCvtTf, execCvtRh, answerOf, validatorAfter]
  | cvtxTc c | cvtxTf c | cvtxRh c => simp [exec, execCvtxTc, execCvtxTf, execCvtxRh, answerOf, validatorAfter]

/-- The answer of an operation that is not floating-point does not depend on FPFMT (R133). -/
theorem answerOf_format_irrelevant {i : Instr} (h : ∀ c : Code, i ≠ .cvtTc c ∧ i ≠ .cvtTf c ∧ i ≠ .cvtRh c)
    (f g : FpFormat) : answerOf f i = answerOf g i := by
  cases i with
  | cvtTc c => exact absurd rfl (h c).1
  | cvtTf c => exact absurd rfl (h c).2.1
  | cvtRh c => exact absurd rfl (h c).2.2
  | _ => rfl

/-- Only CRC8, VALIDATE and DECODE run the checksum machine (R16). -/
theorem validatorAfter_eq_self {i : Instr}
    (h : ∀ (v : Code) (x b0 b1 b2 b3 b4 b5 : Byte),
      i ≠ .crc8 v ∧ i ≠ .validate v x ∧ i ≠ .decode b0 b1 b2 b3 b4 b5) (m : Validator) : validatorAfter i m = m := by
  cases i with
  | crc8 c => exact absurd rfl (h c 0 0 0 0 0 0 0).1
  | validate v x => exact absurd rfl (h v x 0 0 0 0 0 0).2.1
  | decode b0 b1 b2 b3 b4 b5 => exact absurd rfl (h 0 0 b0 b1 b2 b3 b4 b5).2.2
  | _ => rfl

/-- The pure function of a legal word is that of its operation (R59). -/
theorem answer_of_decode_ok (f : FpFormat) {w : ReqWord} {i : Instr} (h : decode w = .ok i) :
    answer f w = answerOf f i := by
  rw [answer, h]

/-- The pure function of an illegal word is the `Illegal` answer (R177). -/
theorem answer_of_decode_error (f : FpFormat) {w : ReqWord} {e : DecodeReject} (h : decode w = .error e) :
    answer f w = Error.illegal.status ++ 0#64 := by
  rw [answer, h]

/-- The answer to an encoded operation is that of the operation. -/
@[simp] theorem answer_encode (f : FpFormat) (i : Instr) : answer f (encode i) = answerOf f i :=
  answer_of_decode_ok f (decode_encode i)

/-- The working values of the checksum machine after the request word, an illegal one running nothing (R16, R177). -/
def validatorAfterWord (w : ReqWord) (m : Validator) : Validator :=
  match decode w with
  | .ok i => validatorAfter i m
  | .error _ => m

/-- The state in which CVC has completed the held request (R23). -/
def State.completed (s : State) : State :=
  (s.withValidator (validatorAfterWord s.held s.validator)).respond
    (statusField (answer s.params.fpfmt s.held)) (dataField (answer s.params.fpfmt s.held))

/-- The state after the atomic transaction of a request word (R25). -/
def State.transacted (w : ReqWord) (s : State) : State := (s.accept w).completed.deliver

namespace State

@[simp] theorem completed_params (s : State) : s.completed.params = s.params := rfl
@[simp] theorem completed_reqReady (s : State) : s.completed.reqReady = s.reqReady := rfl
@[simp] theorem completed_busy (s : State) : s.completed.busy = s.busy := rfl
@[simp] theorem completed_rspValid (s : State) : s.completed.rspValid = true := rfl
@[simp] theorem completed_held (s : State) : s.completed.held = s.held := rfl
@[simp] theorem completed_pending (s : State) : s.completed.pending = answer s.params.fpfmt s.held :=
  statusField_append_dataField _
@[simp] theorem completed_point (s : State) : s.completed.point = s.point := rfl
@[simp] theorem completed_inputs (s : State) : s.completed.inputs = s.inputs := rfl
@[simp] theorem completed_responses (s : State) : s.completed.responses = s.responses := rfl
@[simp] theorem completed_trace (s : State) : s.completed.trace = s.trace := rfl
@[simp] theorem completed_draws (s : State) : s.completed.draws = s.draws := rfl

@[simp] theorem transacted_params (w : ReqWord) (s : State) : (s.transacted w).params = s.params := rfl
@[simp] theorem transacted_idle (w : ReqWord) (s : State) : (s.transacted w).idle = true := rfl
@[simp] theorem transacted_rspValid (w : ReqWord) (s : State) : (s.transacted w).rspValid = false := rfl
@[simp] theorem transacted_pending (w : ReqWord) (s : State) :
    (s.transacted w).pending = answer s.params.fpfmt w := completed_pending _
@[simp] theorem transacted_point (w : ReqWord) (s : State) : (s.transacted w).point = s.point := rfl
@[simp] theorem transacted_inputs (w : ReqWord) (s : State) : (s.transacted w).inputs = s.inputs := rfl
@[simp] theorem transacted_responses (w : ReqWord) (s : State) :
    (s.transacted w).responses = s.responses ++ [answer s.params.fpfmt w] := by
  simp [transacted]
@[simp] theorem transacted_trace (w : ReqWord) (s : State) : (s.transacted w).trace = s.trace := rfl
@[simp] theorem transacted_draws (w : ReqWord) (s : State) : (s.transacted w).draws = s.draws := rfl

/-- An idle CVC is ready and not busy (R23). -/
theorem idle_iff (s : State) : s.idle = true ↔ s.reqReady = true ∧ s.busy = false := by
  simp [idle]

end State

/-- Completing the held request always answers a next state (R59). -/
theorem complete_eq (s : State) : complete s = .next s.completed := by
  cases h : decode s.held with
  | ok i => rw [complete_ok h, exec_eq, State.completed, validatorAfterWord, h, answer_of_decode_ok _ h]
  | error e =>
    rw [complete_error h, State.completed, validatorAfterWord, h, answer_of_decode_error _ h, statusField_append,
      dataField_append]
    rfl

/-- A transaction always answers a next state (R25). -/
theorem transact_eq (w : ReqWord) (s : State) : transact w s = .next (s.transacted w) := by
  simp [transact, complete_eq, State.transacted]

/-- A request of the Orchestrator is answered by the pure function of its operation, and its program goes on from there. -/
theorem cvc_eq (i : Instr) (s : State) (next : Byte → Data → Point) :
    cvc i s next = .next ((s.transacted (encode i)).goto
      (next (statusField (answerOf s.params.fpfmt i)) (dataField (answerOf s.params.fpfmt i)))) := by
  simp [cvc, transact_eq]

/-! ### The step, by what comes first (R10) -/

theorem step_of_no_input {s : State} (h : s.inputs = []) : step s = .next s := by
  simp [step, advance, h]

theorem step_of_request {s : State} {w : ReqWord} {rest : List Input} (h : s.inputs = .request w :: rest) :
    step s = if s.idle then .next ((s.withInputs rest).transacted w) else waitOut s := by
  simp [step, advance, h, transact_eq]

theorem step_of_edge {s : State} {p : Pins} {rest : List Input} (h : s.inputs = .edge p :: rest) :
    step s = clockEdge p (s.withInputs rest) := by
  simp [step, advance, h]

theorem step_of_host {s : State} {a : EnvAnswer} {rest : List Input} (h : s.inputs = .host a :: rest) :
    step s = if s.idle = true ∨ s.point.usesCvc a = false then hostStep a (s.withInputs rest) else waitOut s := by
  simp [step, advance, h]

/-! ### Clock edges while `rst` is low (R23, R200) -/

section
variable {s : State} {p : Pins} (hrst : p.rst = false)
include hrst

/-- A busy CVC that is not done computes on. -/
theorem clockEdge_computing (hb : s.busy = true) (hv : s.rspValid = false) (hd : p.done = false) :
    clockEdge p s = .next s := by
  simp [clockEdge, hrst, hb, hv, hd]

theorem clockEdge_finish (hb : s.busy = true) (hv : s.rspValid = false) (hd : p.done = true) :
    clockEdge p s = .next s.completed := by
  simp [clockEdge, hrst, hb, hv, hd, complete_eq]

/-- A presented response is held while the host is not ready. -/
theorem clockEdge_hold (hb : s.busy = true) (hv : s.rspValid = true) (hr : p.rspReady = false) :
    clockEdge p s = .next s := by
  simp [clockEdge, hrst, hb, hv, hr]

theorem clockEdge_deliver (hb : s.busy = true) (hv : s.rspValid = true) (hr : p.rspReady = true) :
    clockEdge p s = .next s.deliver := by
  simp [clockEdge, hrst, hb, hv, hr]

theorem clockEdge_accept (hi : s.idle = true) (hq : p.reqValid = true) :
    clockEdge p s = .next (if p.done then (s.accept p.req).completed else s.accept p.req) := by
  obtain ⟨hready, hb⟩ := (State.idle_iff s).mp hi
  cases hd : p.done <;> simp [clockEdge, hrst, hb, hready, hq, hd, complete_eq]

/-- An idle CVC without a request stays as it is. -/
theorem clockEdge_stay (hi : s.idle = true) (hq : p.reqValid = false) : clockEdge p s = .next s := by
  obtain ⟨hready, hb⟩ := (State.idle_iff s).mp hi
  simp [clockEdge, hrst, hb, hready, hq]

/-- A CVC that is neither busy nor ready becomes ready (log 6). -/
theorem clockEdge_raiseReady (hb : s.busy = false) (hr : s.reqReady = false) :
    clockEdge p s = .next s.raiseReady := by
  simp [clockEdge, hrst, hb, hr]

end

end Sys2Proof.Machine
end

section
/-! SUPPORT. What one operation and one transaction change and leave alone (10_state.md R11 to R16, R25). -/

open Sys2Proof Sys2Proof.Machine

/-- Settles O35: the step is the transaction, whose response is `answer`. -/
theorem stepAnswersExecOfTheRequest : Obligations.StepAnswersExecOfTheRequest := by
  intro s w rest hin hidle
  refine ⟨(s.withInputs rest).transacted w, by rw [step_of_request hin, if_pos hidle], ?_⟩
  simp

/-- Settles O37: the response is `answerOf`, which looks at no state. -/
theorem resultDependsOnTheRequestAlone : Obligations.ResultDependsOnTheRequestAlone := by
  constructor
  · intro i s s' hf
    exact ⟨_, _, exec_eq i s, exec_eq i s', by simp [hf]⟩
  · intro i s s' hi
    exact ⟨_, _, exec_eq i s, exec_eq i s', by simp [answerOf_format_irrelevant hi s.params.fpfmt s'.params.fpfmt]⟩

/-- Settles O38: a meaning is one `respond` after the checksum machine's run. -/
theorem operationsChangeNothingElse : Obligations.OperationsChangeNothingElse := by
  intro i s
  exact ⟨_, exec_eq i s, rfl, rfl, rfl, rfl, rfl, rfl, rfl, rfl, rfl, rfl, fun hi => validatorAfter_eq_self hi _⟩

/-- Settles O34: a request that finds CVC idle is its transaction, and one that does not is an edge of the wait. -/
theorem stepRunsTheDecodedRequest : Obligations.StepRunsTheDecodedRequest := by
  constructor
  · intro s w rest i hin hidle hdec
    have hc : exec i ((s.withInputs rest).accept w) = .next ((s.withInputs rest).accept w).completed :=
      (complete_ok (s := (s.withInputs rest).accept w) hdec).symm.trans (complete_eq _)
    rw [step_of_request hin, if_pos hidle, hc]
    rfl
  · intro s w rest hin hidle
    simp [step_of_request hin, hidle, waitOut]

/-- Settles O43: each field of `State.reset` is as R27 and R155 say. -/
theorem resetLeavesCvcIdle : Obligations.ResetLeavesCvcIdle :=
  ⟨rfl, rfl, rfl, rfl, rfl, rfl, rfl, rfl, rfl⟩

end

section
/-! SUPPORT. CVC at its ports: what one clock edge does, and that a schedule of edges is the atomic transaction
(10_state.md R22 to R25). -/

namespace Sys2Proof.Machine

/-- Clock edges run one block after another. -/
theorem clockEdges_append {ps : List Pins} {s t : State} (h : clockEdges ps s = .next t) (qs : List Pins) :
    clockEdges (ps ++ qs) s = clockEdges qs t := by
  induction ps generalizing s with
  | nil =>
    cases h
    rfl
  | cons p ps ih =>
    cases hp : clockEdge p s with
    | next u =>
      simp only [clockEdges, hp] at h
      simp only [List.cons_append, clockEdges, hp]
      exact ih h
    | fault r => simp [clockEdges, hp] at h
    | refused r => simp [clockEdges, hp] at h

theorem clockEdges_singleton {p : Pins} {s t : State} (h : clockEdge p s = .next t) : clockEdges [p] s = .next t := by
  simp [clockEdges, h]

/-- Edges that each leave the state as it is leave it so together. -/
theorem clockEdges_fixed {ps : List Pins} {s : State} (h : ∀ p ∈ ps, clockEdge p s = .next s) :
    clockEdges ps s = .next s := by
  induction ps with
  | nil => rfl
  | cons p ps ih =>
    rw [List.forall_mem_cons] at h
    simp [clockEdges, h.1, ih h.2]

/-- A presented response, held for any number of edges and then taken, is delivered. -/
theorem clockEdges_hold_deliver {s : State} (hb : s.busy = true) (hv : s.rspValid = true) {holding : List Pins}
    (h : ∀ p ∈ holding, p.rst = false ∧ p.rspReady = false) :
    clockEdges (holding ++ [⟨false, false, 0#56, true, false⟩]) s = .next s.deliver := by
  rw [clockEdges_append (clockEdges_fixed fun p hp => clockEdge_hold (h p hp).1 hb hv (h p hp).2)]
  exact clockEdges_singleton (clockEdge_deliver rfl hb hv rfl)

end Sys2Proof.Machine

open Sys2Proof Sys2Proof.Machine

/-- Settles O39: while computing and while holding the edges change nothing, so only acceptance, completion and delivery
are left of a schedule. -/
theorem handshakeRefinesTheTransaction : Obligations.HandshakeRefinesTheTransaction := by
  intro s w c hidle hvalid hok
  obtain ⟨hcomputing, hholding⟩ := hok
  have hdeliver : clockEdges (c.holding ++ [⟨false, false, 0#56, true, false⟩]) (s.accept w).completed
      = .next (s.transacted w) := clockEdges_hold_deliver rfl rfl hholding
  refine ⟨s.transacted w, transact_eq w s, ?_, ?_⟩
  · have haccept : clockEdge ⟨false, true, w, false, false⟩ s = .next (s.accept w) := clockEdge_accept rfl hidle rfl
    have hcompute : clockEdges c.computing (s.accept w) = .next (s.accept w) :=
      clockEdges_fixed fun p hp => clockEdge_computing (hcomputing p hp).1 rfl hvalid (hcomputing p hp).2
    have hfinish : clockEdge ⟨false, false, 0#56, false, true⟩ (s.accept w) = .next (s.accept w).completed :=
      clockEdge_finish rfl rfl hvalid rfl
    simp only [Schedule.edges, List.append_assoc]
    rw [clockEdges_append (clockEdges_singleton haccept), clockEdges_append hcompute,
      clockEdges_append (clockEdges_singleton hfinish), hdeliver]
  · have haccept : clockEdge ⟨false, true, w, false, true⟩ s = .next (s.accept w).completed :=
      clockEdge_accept rfl hidle rfl
    rw [List.append_assoc, clockEdges_append (clockEdges_singleton haccept), hdeliver]

/-- Settles O40, by the move that the state and the pins select. -/
theorem handshakeMovesAtClockEdges : Obligations.HandshakeMovesAtClockEdges := by
  refine ⟨?accepts, ?computes, ?holds, ?delivers, ?stays, ?becomesReady⟩
  case accepts =>
    intro s p hrst hb hready hq
    have hedge := clockEdge_accept hrst ((State.idle_iff s).mpr ⟨hready, hb⟩) hq
    cases hd : p.done with
    | false => exact ⟨s.accept p.req, by simpa [hd] using hedge, by simp⟩
    | true => exact ⟨(s.accept p.req).completed, by simpa [hd] using hedge, by simp⟩
  case computes =>
    intro s p hrst hb hv
    cases hd : p.done with
    | false => exact ⟨s, clockEdge_computing hrst hb hv hd, by simp [hb, hv]⟩
    | true => exact ⟨s.completed, clockEdge_finish hrst hb hv hd, by simp [hb]⟩
  case holds =>
    intro s p hrst hb hv hr
    exact clockEdge_hold hrst hb hv hr
  case delivers =>
    intro s p hrst hb hv hr
    exact ⟨s.deliver, clockEdge_deliver hrst hb hv hr, by simp⟩
  case stays =>
    intro s p hrst hb hready hq
    exact clockEdge_stay hrst ((State.idle_iff s).mpr ⟨hready, hb⟩) hq
  case becomesReady =>
    intro s p hrst hb hready
    exact clockEdge_raiseReady hrst hb hready

end

section
/-! SUPPORT. The invariant (10_state.md R23 to R25, 30_encoding.md R50 and R51, 44_session_orchestrator.md R150 to R158 and
R164): what each move of CVC and each line of the Orchestrator keeps of it. -/

namespace Sys2Proof.Machine

/-! ### Legal responses (R50, R51) -/

/-- A success is a legal response, whatever its DATA. -/
theorem legalResponse_statusOk (d : Data) : legalResponse (statusOk ++ d) := by
  simp [legalResponse, legalStatus, statusOk]

/-- An error is a legal response with `DATA = 0`, if its STATUS is one of the five. -/
theorem legalResponse_error {st : Byte} (h : legalStatus st) : legalResponse (st ++ 0#64) := by
  simp [legalResponse, h]

/-- The STATUS of a DECODE of which a field fails is one of the five (R176). -/
theorem legalStatus_checksum {tBad hBad : Bool} (h : tBad = true ∨ hBad = true) :
    legalStatus (Error.checksum tBad hBad).status := by
  unfold legalStatus
  revert tBad hBad
  decide

/-- A failed DECODE is no success (R50). -/
theorem checksum_status_ne_statusOk (tBad hBad : Bool) : (Error.checksum tBad hBad).status ≠ statusOk := by
  revert tBad hBad
  decide

theorem answerOf_legal (f : FpFormat) (i : Instr) : legalResponse (answerOf f i) := by
  cases i with
  | decode b0 b1 b2 b3 b4 b5 =>
    by_cases h : crc8 (be16 b0 b1) = b2 ∧ crc8 (be16 b3 b4) = b5
    · obtain ⟨ht, hh⟩ := h
      rw [answerOf_decode_pass f ht hh]
      exact legalResponse_statusOk _
    · rw [answerOf_decode_fail f h]
      refine legalResponse_error (legalStatus_checksum ?_)
      simpa using Decidable.not_and_iff_or_not.mp h
  | _ => exact legalResponse_statusOk _

/-- The answer to every request word, legal or not, is a legal response. -/
theorem answer_legal (f : FpFormat) (w : ReqWord) : legalResponse (answer f w) := by
  cases h : decode w with
  | ok i =>
    rw [answer_of_decode_ok f h]
    exact answerOf_legal f i
  | error e =>
    rw [answer_of_decode_error f h]
    exact legalResponse_error (.inr (.inl rfl))

/-! ### What the moves of CVC keep -/

namespace State.Inv

variable {s : State}

/-- An idle CVC presents nothing. -/
theorem rspValid_of_idle (h : s.Inv) (hi : s.idle = true) : s.rspValid = false := by
  have hb : s.busy = false := ((State.idle_iff s).mp hi).2
  cases hv : s.rspValid with
  | false => rfl
  | true => exact absurd (h.validWhileBusy hv) (by simp [hb])

theorem withInputs (h : s.Inv) (l : List Input) : (s.withInputs l).Inv :=
  ⟨h.validWhileBusy, h.busyNotReady, h.pendingAnswers, h.responsesLegal, h.cycle⟩

theorem accept (h : s.Inv) (hi : s.idle = true) (w : ReqWord) : (s.accept w).Inv where
  validWhileBusy := fun _ => rfl
  busyNotReady := fun _ => rfl
  pendingAnswers := fun hv => absurd hv (by simp [h.rspValid_of_idle hi])
  responsesLegal := h.responsesLegal
  cycle := h.cycle

theorem completed (h : s.Inv) (hb : s.busy = true) : s.completed.Inv where
  validWhileBusy := fun _ => hb
  busyNotReady := h.busyNotReady
  pendingAnswers := fun _ => State.completed_pending s
  responsesLegal := h.responsesLegal
  cycle := h.cycle

/-- What is delivered is the answer to the accepted word, so it is legal. -/
theorem deliver (h : s.Inv) (hv : s.rspValid = true) : s.deliver.Inv where
  validWhileBusy := nofun
  busyNotReady := nofun
  pendingAnswers := nofun
  responsesLegal := by
    have hlegal : legalResponse s.pending := h.pendingAnswers hv ▸ answer_legal s.params.fpfmt s.held
    intro r hr
    rcases List.mem_append.mp hr with hr | hr
    · exact h.responsesLegal r hr
    · exact List.mem_singleton.mp hr ▸ hlegal
  cycle := h.cycle

theorem resetEdge (h : s.Inv) : s.resetEdge.Inv :=
  ⟨nofun, nofun, nofun, h.responsesLegal, h.cycle⟩

theorem raiseReady (h : s.Inv) (hb : s.busy = false) : s.raiseReady.Inv where
  validWhileBusy := h.validWhileBusy
  busyNotReady := fun hb' => absurd hb' (by simp [hb])
  pendingAnswers := h.pendingAnswers
  responsesLegal := h.responsesLegal
  cycle := h.cycle

theorem transacted (h : s.Inv) (hi : s.idle = true) (w : ReqWord) : (s.transacted w).Inv :=
  ((h.accept hi w).completed rfl).deliver rfl

/-- Every clock edge answers a next state and keeps the invariant. -/
theorem clockEdge (h : s.Inv) (p : Pins) : ∃ t, clockEdge p s = .next t ∧ t.Inv := by
  rcases clockEdge_cases p s with ⟨_, e⟩ | ⟨_, e⟩ | ⟨_, _, hv, _, e⟩ | ⟨_, hb, _, _, e⟩ | ⟨_, hi, _, _, e⟩ |
    ⟨_, hi, _, _, e⟩ | ⟨_, hb, _, e⟩
  · exact ⟨_, e, h.resetEdge⟩
  · exact ⟨_, e, h⟩
  · exact ⟨_, e, h.deliver hv⟩
  · exact ⟨_, e.trans (complete_eq s), h.completed hb⟩
  · exact ⟨_, e, h.accept hi p.req⟩
  · exact ⟨_, e.trans (complete_eq _), (h.accept hi p.req).completed rfl⟩
  · exact ⟨_, e, h.raiseReady hb⟩

/-! ### What a line of the Orchestrator keeps -/

/-- Going on to a line that agrees with every phase the present line agrees with. -/
theorem goto (h : s.Inv) {p q : Point} (hp : s.point = p)
    (hagrees : ∀ ph, p.Agrees s.params ph → q.Agrees s.params ph) : (s.goto q).Inv where
  validWhileBusy := h.validWhileBusy
  busyNotReady := h.busyNotReady
  pendingAnswers := h.pendingAnswers
  responsesLegal := h.responsesLegal
  cycle := by
    obtain ⟨ph, htrace, hph⟩ := h.cycle
    exact ⟨ph, htrace, hagrees ph (hp ▸ hph)⟩

/-- An event that moves the cycle on to a phase the next line agrees with. -/
theorem log_goto (h : s.Inv) {p q : Point} (hp : s.point = p) {e : HostEvent}
    (hmoves : ∀ ph, p.Agrees s.params ph → ∃ ph', Phase.Moves s.params ph e ph' ∧ q.Agrees s.params ph') :
    ((s.log e).goto q).Inv where
  validWhileBusy := h.validWhileBusy
  busyNotReady := h.busyNotReady
  pendingAnswers := h.pendingAnswers
  responsesLegal := h.responsesLegal
  cycle := by
    obtain ⟨ph, htrace, hph⟩ := h.cycle
    obtain ⟨ph', hmove, hph'⟩ := hmoves ph (hp ▸ hph)
    exact ⟨ph', htrace.snoc hmove, hph'⟩

/-- A write, if the cycle prescribes it and the line after either outcome agrees. -/
theorem write (h : s.Inv) {p : Point} (hp : s.point = p) {cmd : Code} {ok : Bool} {onOk onFail : Point}
    (hmoves : ∀ ph, p.Agrees s.params ph → ∀ ok' : Bool, ∃ ph',
      Phase.Moves s.params ph (.wrote busAddress (wireBytes cmd) s.params.timeout ok') ph' ∧
        (if ok' then onOk else onFail).Agrees s.params ph') :
    (Machine.write cmd ok onOk onFail s).Inv :=
  h.log_goto hp fun ph hph => hmoves ph hph ok

/-- The Measure call, with either outcome (R152, R157 row 2). -/
theorem measure (h : s.Inv) {cmd : Code} (hp : s.point = .sendMeas cmd) (a : EnvAnswer) :
    (Machine.measure cmd a s).Inv := by
  refine h.log_goto hp ?_
  rintro _ ⟨rfl, rfl⟩
  cases a.ok
  · exact ⟨_, .measureFails, rfl⟩
  · exact ⟨_, .measure a.bytes, rfl⟩

/-- A request of the Orchestrator, if the line after it agrees for the answer of its operation. -/
theorem cvc (h : s.Inv) (hi : s.idle = true) {p : Point} (hp : s.point = p) {i : Instr} {next : Byte → Data → Point}
    (hagrees : ∀ ph, p.Agrees s.params ph →
      (next (statusField (answerOf s.params.fpfmt i)) (dataField (answerOf s.params.fpfmt i))).Agrees s.params ph) :
    ∃ t, Machine.cvc i s next = .next t ∧ t.Inv :=
  ⟨_, cvc_eq i s next, (h.transacted hi (encode i)).goto hp hagrees⟩

/-- Obtaining a command frame: the host's constant is the word CVC answers, so the line after it agrees either way. -/
theorem obtainFrame (h : s.Inv) {a : EnvAnswer} (hi : s.idle = true ∨ (!a.ownFrame) = false) {p : Point}
    (hp : s.point = p) (c : Command) {next : Code → Point}
    (hagrees : ∀ ph, p.Agrees s.params ph → (next c.word).Agrees s.params ph) :
    ∃ t, Machine.obtainFrame c.request c.word a s next = .next t ∧ t.Inv := by
  rcases obtainFrame_cases c.request c.word a s next with ⟨_, e⟩ | ⟨hown, e⟩
  · exact ⟨_, e, h.goto hp hagrees⟩
  · have hidle : s.idle = true := hi.resolve_right (by simp [hown])
    have hword : dataLo16 (dataField (answerOf s.params.fpfmt c.request)) = c.word := by
      cases c <;> simp [answerOf, Command.request, Command.word]
    rw [e]
    exact h.cvc hidle hp (by simpa [hword] using hagrees)

end State.Inv

/-! ### The values a cycle reports (R149, R153, R179) -/

/-- The bytes that have a DECODE request are exactly six (R106). -/
theorem frameRequest_eq_some {bytes : List Byte} {i : Instr} (h : frameRequest bytes = some i) :
    ∃ b0 b1 b2 b3 b4 b5 : Byte, bytes = [b0, b1, b2, b3, b4, b5] ∧ i = .decode b0 b1 b2 b3 b4 b5 := by
  unfold frameRequest at h
  split at h
  · exact ⟨_, _, _, _, _, _, rfl, (Option.some.inj h).symm⟩
  · exact absurd h nofun

/-- A frame of the right length has a DECODE request (R106). -/
theorem frameLengthOk_of_frameRequest {bytes : List Byte} {i : Instr} (h : frameRequest bytes = some i) :
    frameLengthOk bytes = true := by
  obtain ⟨b0, b1, b2, b3, b4, b5, rfl, _⟩ := frameRequest_eq_some h
  rfl

/-- Bytes that have no DECODE request are reported as the decode error (R179). -/
theorem reportAllowed_decodeError (f : FpFormat) {bytes : List Byte} (h : frameRequest bytes = none) :
    reportAllowed f bytes .decodeError := by
  unfold reportAllowed
  split
  · exact absurd h nofun
  · rfl

/-- Six bytes of which a field fails are reported as the checksum error (R156). -/
theorem reportAllowed_checksumError (f : FpFormat) {b0 b1 b2 b3 b4 b5 : Byte}
    (h : ¬(crc8 (be16 b0 b1) = b2 ∧ crc8 (be16 b3 b4) = b5)) :
    reportAllowed f [b0, b1, b2, b3, b4, b5] .checksumError := by
  simp only [reportAllowed, if_neg h]

/-- Both converted values of a good frame may be reported, each in either family (R153, log 17). -/
theorem reportAllowed_physicalReading (f : FpFormat) {bytes : List Byte} {rawTemp rawHumid : Code}
    (h : goodFrame bytes rawTemp rawHumid) (tempFixed humidFixed : Bool) :
    reportAllowed f bytes (.physicalReading ⟨tempFixed, humidFixed, temperatureData f tempFixed rawTemp,
      humidityData f humidFixed rawHumid⟩) := by
  obtain ⟨b0, b1, b2, b3, b4, b5, rfl, rfl, rfl, ht, hh⟩ := h
  simp only [reportAllowed, if_pos (And.intro ht hh)]
  exact ⟨tempFixed, humidFixed, rfl⟩

/-- The DATA of a temperature conversion in either family (R165). -/
@[simp] theorem dataField_temperatureRequest (f : FpFormat) (fixed : Bool) (raw : Code) :
    dataField (answerOf f (temperatureRequest fixed raw)) = temperatureData f fixed raw := by
  cases fixed <;> simp [temperatureRequest, temperatureData, answerOf]

/-- The DATA of a humidity conversion in either family (R165). -/
@[simp] theorem dataField_humidityRequest (f : FpFormat) (fixed : Bool) (raw : Code) :
    dataField (answerOf f (humidityRequest fixed raw)) = humidityData f fixed raw := by
  cases fixed <;> simp [humidityRequest, humidityData, answerOf]

/-- The line after the DECODE of six bytes agrees with their having been read: a conversion of what they carry, or the
checksum error (R153, R156). -/
theorem agrees_after_decode (p : Params) (b0 b1 b2 b3 b4 b5 : Byte) :
    (if statusField (answerOf p.fpfmt (.decode b0 b1 b2 b3 b4 b5)) = statusOk then
      Point.convert (dataHi16 (dataField (answerOf p.fpfmt (.decode b0 b1 b2 b3 b4 b5))))
        (dataLo16 (dataField (answerOf p.fpfmt (.decode b0 b1 b2 b3 b4 b5))))
      else .reportChecksum).Agrees p (.measured [b0, b1, b2, b3, b4, b5]) := by
  by_cases h : crc8 (be16 b0 b1) = b2 ∧ crc8 (be16 b3 b4) = b5
  · obtain ⟨ht, hh⟩ := h
    rw [answerOf_decode_pass _ ht hh, statusField_append, if_pos rfl, dataField_append, dataHi16_append,
      dataLo16_append]
    exact ⟨_, rfl, b0, b1, b2, b3, b4, b5, rfl, rfl, rfl, ht, hh⟩
  · have hstatus : (Error.checksum (crc8 (be16 b0 b1) != b2) (crc8 (be16 b3 b4) != b5)).status ≠ statusOk :=
      checksum_status_ne_statusOk _ _
    rw [answerOf_decode_fail _ h, statusField_append, if_neg hstatus]
    exact ⟨_, rfl, reportAllowed_checksumError p.fpfmt h⟩

/-! ### The Orchestrator's step -/

/-- Every line of the Orchestrator that may run (R206: CVC is idle, or the line issues no request) answers a next state and
keeps the invariant. -/
theorem State.Inv.hostStep {s : State} (h : s.Inv) {a : EnvAnswer} (hi : s.idle = true ∨ s.point.usesCvc a = false) :
    ∃ t, hostStep a s = .next t ∧ t.Inv := by
  unfold Machine.hostStep
  cases hp : s.point with rw [hp] at hi
  | askPup => exact h.obtainFrame hi hp .powerUp fun _ hph => ⟨hph, rfl⟩
  | sendPup cmd =>
    refine ⟨_, rfl, h.write hp ?_⟩
    rintro _ ⟨rfl, rfl⟩ (_ | _)
    · exact ⟨_, .powerUpFails, rfl⟩
    · exact ⟨_, .powerUp, rfl⟩
  | reportPupFail => exact ⟨_, rfl, h.log_goto hp fun | _, rfl => ⟨_, .reportPowerUpFailure, rfl⟩⟩
  | settle => exact ⟨_, rfl, h.log_goto hp fun | _, rfl => ⟨_, .settle _ (Nat.le_add_right _ _), rfl⟩⟩
  | askMeas => exact h.obtainFrame hi hp .measure fun _ hph => ⟨hph, rfl⟩
  | sendMeas cmd => exact ⟨_, rfl, h.measure hp a⟩
  | reportMeasFail => exact ⟨_, rfl, h.log_goto hp fun | _, rfl => ⟨_, .reportMeasureFailure, rfl⟩⟩
  | haveBytes bytes =>
    dsimp only
    split
    next hreq =>
      have hallowed := reportAllowed_decodeError s.params.fpfmt hreq
      exact ⟨_, rfl, h.log_goto hp fun | _, rfl => ⟨_, .reportOutcome bytes _ hallowed, rfl⟩⟩
    next i hreq =>
      have hidle : s.idle = true := hi.resolve_right (by simp [Point.usesCvc, frameLengthOk_of_frameRequest hreq])
      obtain ⟨b0, b1, b2, b3, b4, b5, rfl, rfl⟩ := frameRequest_eq_some hreq
      exact h.cvc hidle hp fun | _, rfl => agrees_after_decode s.params b0 b1 b2 b3 b4 b5
  | reportChecksum =>
    exact ⟨_, rfl, h.log_goto hp fun | _, ⟨bytes, rfl, hallowed⟩ => ⟨_, .reportOutcome bytes _ hallowed, rfl⟩⟩
  | convert rawTemp rawHumid =>
    have hidle : s.idle = true := hi.resolve_right nofun
    dsimp only
    split
    · exact h.cvc hidle hp fun
        | _, ⟨bytes, rfl, hgood⟩ => ⟨bytes, rawHumid, rfl, hgood, dataField_humidityRequest _ _ _⟩
    · exact h.cvc hidle hp fun
        | _, ⟨bytes, rfl, hgood⟩ => ⟨bytes, rawTemp, rfl, hgood, dataField_temperatureRequest _ _ _⟩
  | askHumid tempFixed temp rawHumid =>
    refine h.cvc (hi.resolve_right nofun) hp ?_
    rintro _ ⟨bytes, rawTemp, rfl, hgood, rfl⟩
    rw [dataField_humidityRequest]
    exact ⟨bytes, rfl, reportAllowed_physicalReading _ hgood tempFixed a.fixed⟩
  | askTemp humidFixed humid rawTemp =>
    refine h.cvc (hi.resolve_right nofun) hp ?_
    rintro _ ⟨bytes, rawHumid, rfl, hgood, rfl⟩
    rw [dataField_temperatureRequest]
    exact ⟨bytes, rfl, reportAllowed_physicalReading _ hgood a.fixed humidFixed⟩
  | reportReading r =>
    exact ⟨_, rfl, h.log_goto hp fun | _, ⟨bytes, rfl, hallowed⟩ => ⟨_, .reportOutcome bytes _ hallowed, rfl⟩⟩
  | askPdn => exact h.obtainFrame hi hp .powerDown fun _ hph => ⟨hph, rfl⟩
  | sendPdn cmd =>
    refine ⟨_, rfl, h.write hp ?_⟩
    rintro _ ⟨rfl, rfl⟩ (_ | _)
    · exact ⟨_, .powerDownFails, rfl⟩
    · exact ⟨_, .powerDown, rfl⟩
  | reportPdnFail => exact ⟨_, rfl, h.log_goto hp fun | _, rfl => ⟨_, .reportPowerDownFailure, rfl⟩⟩
  | rest powerUpOk => exact ⟨_, rfl, h.log_goto hp fun | _, rfl => ⟨_, .rest, rfl⟩⟩

/-- Every step of every agent answers a next state and keeps the invariant. -/
theorem State.Inv.step {s : State} (h : s.Inv) : ∃ t, step s = .next t ∧ t.Inv := by
  cases hin : s.inputs with
  | nil => exact ⟨s, step_of_no_input hin, h⟩
  | cons x rest =>
    cases x with
    | request w =>
      rw [step_of_request hin]
      split
      next hidle => exact ⟨_, rfl, (h.withInputs rest).transacted hidle w⟩
      next => exact h.clockEdge waitPins
    | edge p =>
      rw [step_of_edge hin]
      exact (h.withInputs rest).clockEdge p
    | host a =>
      rw [step_of_host hin]
      split
      next hmay => exact (h.withInputs rest).hostStep hmay
      next => exact h.clockEdge waitPins

/-- The invariant holds initially (R27, R155). -/
theorem State.inv_reset : State.reset.Inv where
  validWhileBusy := nofun
  busyNotReady := nofun
  pendingAnswers := nofun
  responsesLegal := nofun
  cycle := ⟨.ready, .start, rfl⟩

end Sys2Proof.Machine

open Sys2Proof Sys2Proof.Machine

/-- Settles O52, by the agent that moves: CVC's moves keep the handshake and legality clauses, the Orchestrator's lines the
cycle clause. -/
theorem everyStepKeepsTheInvariant : Obligations.EveryStepKeepsTheInvariant :=
  fun _ h => h.step

/-- Settles O51: nothing is presented, delivered or traced, and the cycle is at its beginning. -/
theorem resetMeetsTheInvariant : Obligations.ResetMeetsTheInvariant := State.inv_reset

end

section
/-! SUPPORT. Wire order inside the request and response words (30_encoding.md R36): what a format reads from its `ARG`, and
where the two bytes of a command frame stand in `DATA`. -/

namespace Sys2Proof

/-! ### What a format reads (R47, R48) -/

/-- A format that rejects a word unless its must-be-zero bits are clear (R54) reads an operation only when they are. -/
theorem ite_ok_error_eq_ok_iff {mbzClear : Prop} [Decidable mbzClear] {e : DecodeReject} {i j : Instr} :
    (if mbzClear then Except.ok i else .error e) = .ok j ↔ mbzClear ∧ i = j := by
  split <;> simp [*]

theorem decodeN_eq_ok_iff {op : Byte} {arg : BitVec 48} {i j : Instr} :
    decodeN op arg i = .ok j ↔ arg = 0#48 ∧ i = j := ite_ok_error_eq_ok_iff

theorem decodeR_eq_ok_iff {op : Byte} {arg : BitVec 48} {i : Code → Instr} {j : Instr} :
    decodeR op arg i = .ok j ↔ arg.extractLsb' 16 32 = 0#32 ∧ i (codeField arg) = j := ite_ok_error_eq_ok_iff

theorem decodeV_eq_ok_iff {op : Byte} {arg : BitVec 48} {i : Code → Byte → Instr} {j : Instr} :
    decodeV op arg i = .ok j ↔ arg.extractLsb' 24 24 = 0#24 ∧ i (valueField arg) (expectedField arg) = j :=
  ite_ok_error_eq_ok_iff

/-- Only the format F word asks for a DECODE, of the six bytes of its `ARG`. -/
theorem decodeF_argField_of_decode {w : ReqWord} {b0 b1 b2 b3 b4 b5 : Byte}
    (h : decode w = .ok (.decode b0 b1 b2 b3 b4 b5)) : decodeF (argField w) = .decode b0 b1 b2 b3 b4 b5 := by
  unfold decode at h
  dsimp only at h
  split at h
  case h_6 => exact Except.ok.inj h -- `OP` 0x20
  all_goals simp [decodeN_eq_ok_iff, decodeR_eq_ok_iff, decodeV_eq_ok_iff] at h

namespace Machine

/-! ### Neighbouring bytes of a word (R34, R36) -/

/-- Two neighbouring bytes are the 16-bit value that stands there. -/
theorem be16_extract {n : Nat} (x : BitVec n) (k : Nat) :
    be16 (x.extractLsb' (k + 8) 8) (x.extractLsb' k 8) = x.extractLsb' k 16 :=
  BitVec.extractLsb'_append_extractLsb'_eq_extractLsb' rfl

/-- A 16-bit value and the checksum byte after it are the field that stands there. -/
theorem be16_append_extract {n : Nat} (x : BitVec n) (k : Nat) :
    be16 (x.extractLsb' (k + 16) 8) (x.extractLsb' (k + 8) 8) ++ x.extractLsb' k 8 = x.extractLsb' k 24 := by
  rw [be16_extract x (k + 8)]
  exact BitVec.extractLsb'_append_extractLsb'_eq_extractLsb' rfl

/-! ### The command frame in `DATA` (R51, R91 to R93) -/

/-- `DATA[15:8]` is the high byte of the command word. -/
theorem hi8_dataLo16 (d : Data) : hi8 (dataLo16 d) = d.extractLsb' 8 8 :=
  BitVec.extractLsb'_extractLsb'_of_le (by decide)

/-- `DATA[7:0]` is the low byte of the command word. -/
theorem lo8_dataLo16 (d : Data) : lo8 (dataLo16 d) = d.extractLsb' 0 8 :=
  BitVec.extractLsb'_extractLsb'_of_le (by decide)

/-- The encoder answers the command word in `DATA[15:0]`. -/
theorem dataLo16_answerOf_request (f : FpFormat) (c : Command) :
    dataLo16 (dataField (answerOf f c.request)) = c.word := by
  cases c <;> simp [answerOf, Command.request]

end Machine

end Sys2Proof

open Sys2Proof Sys2Proof.Machine

/-- Settles O9: the bytes of a DECODE are cut from `ARG` in order, so neighbouring ones join to the values and fields that
stand there; the command word is `DATA[15:0]`, high byte first. -/
theorem wireOrderIsKeptInsideTheWords : Obligations.WireOrderIsKeptInsideTheWords := by
  refine ⟨?frame, ?command⟩
  case frame =>
    intro w b0 b1 b2 b3 b4 b5 h
    obtain ⟨rfl, rfl, rfl, rfl, rfl, rfl⟩ := Instr.decode.inj (decodeF_argField_of_decode h)
    refine ⟨rfl, rfl, (be16_extract (argField w) 32).symm, (be16_append_extract (argField w) 24).symm, ?_⟩
    rw [← be16_append_extract (argField w) 0]
    exact decode_encode (.validate _ _)
  case command =>
    intro c s
    refine ⟨_, exec_eq c.request s, ?_⟩
    rw [State.respond_pending, dataField_append, ← hi8_dataLo16, ← lo8_dataLo16, dataLo16_answerOf_request]
    exact ⟨rfl, rfl⟩

end

section
/-! SUPPORT. The decoder against the encoder and the opcode map (30_encoding.md R46 to R48, R52 to R54): what each format
decodes to, no bit of a legal word is dropped, and every word that no row selects is answered as illegal. -/

namespace Sys2Proof

/-! ### No bit of a legal word is dropped (R47) -/

/-- A format N word that decodes is the encoding of what it decodes to. -/
theorem encode_of_decodeN {op : Byte} {arg : BitVec 48} {i j : Instr} (hi : encode i = op ++ 0#48)
    (h : decodeN op arg i = .ok j) : encode j = op ++ arg := by
  obtain ⟨rfl, rfl⟩ := decodeN_eq_ok_iff.mp h
  exact hi

/-- A format R word that decodes is the encoding of what it decodes to. -/
theorem encode_of_decodeR {op : Byte} {arg : BitVec 48} {i : Code → Instr} {j : Instr}
    (hi : ∀ c, encode (i c) = encodeR op c) (h : decodeR op arg i = .ok j) : encode j = op ++ arg := by
  obtain ⟨hmbz, rfl⟩ := decodeR_eq_ok_iff.mp h
  rw [hi, encodeR, ← hmbz, codeField, append_extract (m := 32) (n := 16) arg]

/-- A format V word that decodes is the encoding of what it decodes to. -/
theorem encode_of_decodeV {op : Byte} {arg : BitVec 48} {i : Code → Byte → Instr} {j : Instr}
    (hi : ∀ v e, encode (i v e) = op ++ (0#24 ++ (v ++ e))) (h : decodeV op arg i = .ok j) : encode j = op ++ arg := by
  obtain ⟨hmbz, rfl⟩ := decodeV_eq_ok_iff.mp h
  have hoperands : valueField arg ++ expectedField arg = arg.extractLsb' 0 24 :=
    BitVec.extractLsb'_append_extractLsb'_eq_extractLsb' rfl
  rw [hi, hoperands, ← hmbz, append_extract (m := 24) (n := 24) arg]

/-- A format F word is the encoding of what it decodes to. -/
theorem encode_decodeF (arg : BitVec 48) : encode (decodeF arg) = 0x20#8 ++ arg := by
  have hframe : (arg.extractLsb' 40 8 ++ (arg.extractLsb' 32 8 ++ (arg.extractLsb' 24 8 ++ (arg.extractLsb' 16 8 ++
      (arg.extractLsb' 8 8 ++ arg.extractLsb' 0 8))))) = arg := by
    simp only [BitVec.extractLsb'_append_extractLsb'_eq_extractLsb', BitVec.extractLsb'_eq_self]
  exact congrArg (0x20#8 ++ ·) hframe

/-- A request word that decodes is the encoding of what it decodes to. -/
theorem encode_of_decode {w : ReqWord} {i : Instr} (h : decode w = .ok i) : encode i = w := by
  suffices encode i = opField w ++ argField w by rw [this, op_append_arg]
  unfold decode at h
  dsimp only at h
  split at h
  case h_1 hop | h_7 hop | h_8 hop | h_9 hop | h_10 hop | h_11 hop | h_12 hop =>
    rw [hop] at h ⊢
    exact encode_of_decodeR (fun _ => rfl) h
  case h_2 hop =>
    rw [hop] at h ⊢
    exact encode_of_decodeV (fun _ _ => rfl) h
  case h_3 hop | h_4 hop | h_5 hop =>
    rw [hop] at h ⊢
    exact encode_of_decodeN rfl h
  case h_6 hop =>
    rw [hop, ← Except.ok.inj h]
    exact encode_decodeF (argField w)
  case h_13 => exact absurd h nofun

/-! ### What each format decodes to (R47, R48, R52, R54) -/

namespace Machine

/-- A word that does not decode is answered as illegal (R177). -/
theorem answeredIllegal_of_decode_error {w : ReqWord} {e : DecodeReject} (h : decode w = .error e) :
    AnsweredIllegal w := by
  intro s
  rw [transact, complete_error (s := s.accept w) h]
  rfl

/-- A word that is not the encoding of any operation is answered as illegal. -/
theorem answeredIllegal_of_forall_ne {w : ReqWord} (h : ∀ i, encode i ≠ w) : AnsweredIllegal w := by
  cases hw : decode w with
  | ok i => exact absurd (encode_of_decode hw) (h i)
  | error e => exact answeredIllegal_of_decode_error hw

theorem formatR_of_decode {op : Byte} {i : Code → Instr}
    (h : ∀ w, opField w = op → decode w = decodeR op (argField w) i) : FormatR op i := by
  intro w hop
  refine ⟨fun hmbz => by rw [h w hop, decodeR, if_pos hmbz, codeField], fun hmbz => ?_⟩
  exact answeredIllegal_of_decode_error ((h w hop).trans (if_neg hmbz))

theorem formatV_of_decode {op : Byte} {i : Code → Byte → Instr}
    (h : ∀ w, opField w = op → decode w = decodeV op (argField w) i) : FormatV op i := by
  intro w hop
  refine ⟨fun hmbz => by rw [h w hop, decodeV, if_pos hmbz, valueField, expectedField], fun hmbz => ?_⟩
  exact answeredIllegal_of_decode_error ((h w hop).trans (if_neg hmbz))

theorem formatN_of_decode {op : Byte} {i : Instr}
    (h : ∀ w, opField w = op → decode w = decodeN op (argField w) i) : FormatN op i := by
  intro w hop
  refine ⟨fun hmbz => by rw [h w hop, decodeN, if_pos hmbz], fun hmbz => ?_⟩
  exact answeredIllegal_of_decode_error ((h w hop).trans (if_neg hmbz))

theorem formatR_crc8 : FormatR 0x01#8 .crc8 := formatR_of_decode fun _ h => by simp [decode, h]
theorem formatV_validate : FormatV 0x02#8 .validate := formatV_of_decode fun _ h => by simp [decode, h]
theorem formatN_encPup : FormatN 0x10#8 .encPup := formatN_of_decode fun _ h => by simp [decode, h]
theorem formatN_encPdn : FormatN 0x11#8 .encPdn := formatN_of_decode fun _ h => by simp [decode, h]
theorem formatN_encMeas : FormatN 0x12#8 .encMeas := formatN_of_decode fun _ h => by simp [decode, h]
theorem formatF_decode : FormatF 0x20#8 .decode := fun w h => by simp [decode, h, decodeF, frameByteField]
theorem formatR_cvtTc : FormatR 0x30#8 .cvtTc := formatR_of_decode fun _ h => by simp [decode, h]
theorem formatR_cvtTf : FormatR 0x31#8 .cvtTf := formatR_of_decode fun _ h => by simp [decode, h]
theorem formatR_cvtRh : FormatR 0x32#8 .cvtRh := formatR_of_decode fun _ h => by simp [decode, h]
theorem formatR_cvtxTc : FormatR 0x38#8 .cvtxTc := formatR_of_decode fun _ h => by simp [decode, h]
theorem formatR_cvtxTf : FormatR 0x39#8 .cvtxTf := formatR_of_decode fun _ h => by simp [decode, h]
theorem formatR_cvtxRh : FormatR 0x3A#8 .cvtxRh := formatR_of_decode fun _ h => by simp [decode, h]

/-! ### The rows of the opcode map (R52) -/

/-- Every operation has a row, with its mnemonic and operation code, that its encoding selects. -/
theorem exists_row_of_encode (i : Instr) : Laws.SelectsItsRow.Statement i := by
  cases i with
  | crc8 c => exact Laws.SelectsItsRow.crc8 c
  | validate v e => exact Laws.SelectsItsRow.validate v e
  | encPup => exact Laws.SelectsItsRow.encPup
  | encPdn => exact Laws.SelectsItsRow.encPdn
  | encMeas => exact Laws.SelectsItsRow.encMeas
  | decode b0 b1 b2 b3 b4 b5 => exact Laws.SelectsItsRow.decode b0 b1 b2 b3 b4 b5
  | cvtTc c => exact Laws.SelectsItsRow.cvtTc c
  | cvtTf c => exact Laws.SelectsItsRow.cvtTf c
  | cvtRh c => exact Laws.SelectsItsRow.cvtRh c
  | cvtxTc c => exact Laws.SelectsItsRow.cvtxTc c
  | cvtxTf c => exact Laws.SelectsItsRow.cvtxTf c
  | cvtxRh c => exact Laws.SelectsItsRow.cvtxRh c

/-- Every row compares all of `OP` with its operation code, and bits of `ARG` with 0. -/
theorem opcodeRows_fields : ∀ r ∈ opcodeRows,
    opField r.mask = BitVec.allOnes 8 ∧ opField r.pattern = r.op ∧ argField r.pattern = 0#48 := by decide

/-- A row selects a word by its operation code and by the bits of `ARG` under its mask. -/
theorem opField_and_argField_of_selects {r : OpRow} (hr : r ∈ opcodeRows) {w : ReqWord} (h : r.selects w = true) :
    opField w = r.op ∧ argField w &&& argField r.mask = 0#48 := by
  obtain ⟨hmask, hpattern, hzero⟩ := opcodeRows_fields r hr
  have hword : w &&& r.mask = r.pattern := eq_of_beq h
  have hop : opField w &&& opField r.mask = opField r.pattern := by
    rw [← hword]; exact BitVec.extractLsb'_and.symm
  have harg : argField w &&& argField r.mask = argField r.pattern := by
    rw [← hword]; exact BitVec.extractLsb'_and.symm
  rw [hmask, BitVec.and_allOnes] at hop
  exact ⟨hop.trans hpattern, harg.trans hzero⟩

/-- The rows have different operation codes. -/
theorem opcodeRows_op_injective : ∀ r ∈ opcodeRows, ∀ r' ∈ opcodeRows, r.op = r'.op → r = r' := by decide

/-- The bits of a word under a mask of ones above zeros are clear exactly when its high part is. -/
theorem and_allOnes_append_zero_eq_zero_iff {m n : Nat} {w : BitVec (m + n)} :
    w &&& (BitVec.allOnes m ++ 0#n) = 0#(m + n) ↔ w.extractLsb' n m = 0#m := by
  conv => lhs; lhs; rw [← append_extract w, BitVec.and_append, BitVec.and_allOnes, BitVec.and_zero]
  rw [← BitVec.zero_append_zero, BitVec.append_left_inj]

/-- The mask of a format R row is over `ARG[47:16]` (R47, R52). -/
theorem mbzR_clear {arg : BitVec 48} (h : arg &&& 0xFFFFFFFF0000#48 = 0#48) : arg.extractLsb' 16 32 = 0#32 :=
  (and_allOnes_append_zero_eq_zero_iff (m := 32) (n := 16)).mp h

/-- The mask of a format V row is over `ARG[47:24]` (R47, R52). -/
theorem mbzV_clear {arg : BitVec 48} (h : arg &&& 0xFFFFFF000000#48 = 0#48) : arg.extractLsb' 24 24 = 0#24 :=
  (and_allOnes_append_zero_eq_zero_iff (m := 24) (n := 24)).mp h

/-- The mask of a format N row is over all of `ARG` (R47, R52). -/
theorem mbzN_clear {arg : BitVec 48} (h : arg &&& 0xFFFFFFFFFFFF#48 = 0#48) : arg = 0#48 :=
  BitVec.and_allOnes.symm.trans h

/-- A word that a row selects decodes to an operation with the row's mnemonic. -/
theorem decode_of_selects {r : OpRow} (hr : r ∈ opcodeRows) {w : ReqWord} (h : r.selects w = true) :
    ∃ i : Instr, decode w = .ok i ∧ i.mnemonic = r.mnemonic := by
  obtain ⟨hop, hmbz⟩ := opField_and_argField_of_selects hr h
  simp only [opcodeRows, List.cons_append, List.nil_append, List.mem_cons, List.not_mem_nil, or_false] at hr
  rcases hr with rfl | rfl | rfl | rfl | rfl | rfl | rfl | rfl | rfl | rfl | rfl | rfl
  · exact ⟨_, (formatR_crc8 w hop).1 (mbzR_clear hmbz), rfl⟩
  · exact ⟨_, (formatV_validate w hop).1 (mbzV_clear hmbz), rfl⟩
  · exact ⟨_, (formatN_encPup w hop).1 (mbzN_clear hmbz), rfl⟩
  · exact ⟨_, (formatN_encPdn w hop).1 (mbzN_clear hmbz), rfl⟩
  · exact ⟨_, (formatN_encMeas w hop).1 (mbzN_clear hmbz), rfl⟩
  · exact ⟨_, formatF_decode w hop, rfl⟩
  · exact ⟨_, (formatR_cvtTc w hop).1 (mbzR_clear hmbz), rfl⟩
  · exact ⟨_, (formatR_cvtTf w hop).1 (mbzR_clear hmbz), rfl⟩
  · exact ⟨_, (formatR_cvtRh w hop).1 (mbzR_clear hmbz), rfl⟩
  · exact ⟨_, (formatR_cvtxTc w hop).1 (mbzR_clear hmbz), rfl⟩
  · exact ⟨_, (formatR_cvtxTf w hop).1 (mbzR_clear hmbz), rfl⟩
  · exact ⟨_, (formatR_cvtxRh w hop).1 (mbzR_clear hmbz), rfl⟩

/-- The reserved operation codes are those that no row has (R53). -/
theorem reservedOp_iff (op : Byte) : reservedOp op = true ↔ ∀ r ∈ opcodeRows, r.op ≠ op := by
  simp only [reservedOp, opcodeRows, List.cons_append, List.nil_append, List.forall_mem_cons, List.not_mem_nil,
    false_imp_iff, implies_true, and_true, Bool.or_eq_true, Bool.and_eq_true, decide_eq_true_eq, beq_iff_eq]
  bv_omega

/-- A word with a reserved operation code is the encoding of no operation, so it is answered as illegal (R53). -/
theorem answeredIllegal_of_reservedOp {w : ReqWord} (h : reservedOp (opField w) = true) : AnsweredIllegal w := by
  refine answeredIllegal_of_forall_ne fun i hi => ?_
  obtain ⟨r, hr, _, hop, _⟩ := exists_row_of_encode i
  exact (reservedOp_iff _).mp h r hr (hi ▸ hop.symm)

end Machine

end Sys2Proof

open Sys2Proof Sys2Proof.Machine

/-- Settles O1: the fields are cut where the encoder joins them. -/
theorem decodeInvertsEncode : Obligations.DecodeInvertsEncode := decode_encode

/-- Settles O2, format by format: the fields and the clear must-be-zero bits are the whole word. -/
theorem encodeInvertsDecode : Obligations.EncodeInvertsDecode := fun _ _ => encode_of_decode

/-- Settles O3: a row fixes the operation code and decodes, and every operation's encoding selects a row. -/
theorem opcodeMapPartitionsRequestWords : Obligations.OpcodeMapPartitionsRequestWords := by
  refine ⟨?disjoint, ?selected, ?unselected⟩
  case disjoint =>
    intro w r r' hr hr' h h'
    obtain ⟨hop, _⟩ := opField_and_argField_of_selects hr h
    obtain ⟨hop', _⟩ := opField_and_argField_of_selects hr' h'
    exact opcodeRows_op_injective r hr r' hr' (hop.symm.trans hop')
  case selected =>
    intro w r hr h
    obtain ⟨i, hdecode, hmnemonic⟩ := decode_of_selects hr h
    exact ⟨i, hdecode, hmnemonic, (opField_and_argField_of_selects hr h).1⟩
  case unselected =>
    intro w h
    refine answeredIllegal_of_forall_ne fun i hi => ?_
    obtain ⟨r, hr, _, _, hselects⟩ := exists_row_of_encode i
    rw [hi, h r hr] at hselects
    exact Bool.false_ne_true hselects

/-- Settles O5: the reserved operation codes are those of no row, and every operation's encoding has a row's. -/
theorem reservedOpIsAnsweredIllegal : Obligations.ReservedOpIsAnsweredIllegal :=
  ⟨fun _ => answeredIllegal_of_reservedOp, reservedOp_iff, by decide +kernel, answeredIllegal_of_reservedOp (by decide)⟩

/-- Settles O6: each format rejects a set must-be-zero bit, and format F has none. -/
theorem mbzBitSetIsAnsweredIllegal : Obligations.MbzBitSetIsAnsweredIllegal := by
  refine ⟨?formatR, fun w hop => (formatV_validate w hop).2, ?formatN, fun w hop => ⟨_, formatF_decode w hop⟩⟩
  case formatR =>
    intro w hop
    simp only [List.mem_cons, List.not_mem_nil, or_false] at hop
    rcases hop with hop | hop | hop | hop | hop | hop | hop
    · exact (formatR_crc8 w hop).2
    · exact (formatR_cvtTc w hop).2
    · exact (formatR_cvtTf w hop).2
    · exact (formatR_cvtRh w hop).2
    · exact (formatR_cvtxTc w hop).2
    · exact (formatR_cvtxTf w hop).2
    · exact (formatR_cvtxRh w hop).2
  case formatN =>
    intro w hop
    simp only [List.mem_cons, List.not_mem_nil, or_false] at hop
    rcases hop with hop | hop | hop
    · exact (formatN_encPup w hop).2
    · exact (formatN_encPdn w hop).2
    · exact (formatN_encMeas w hop).2

end

section
/-! SUPPORT. What STATUS says of a request (30_encoding.md R50, R51), that an illegal request leaves nothing behind (R56), and
that the operations carry the source's contracts (R45). -/

namespace Sys2Proof.Machine

/-! ### STATUS, bit by bit (R50) -/

/-- What the bits of a STATUS that R50 lists say of each other. -/
theorem legalStatus_bits {st : Byte} (h : legalStatus st) :
    st.extractLsb' 4 4 = 0#4 ∧ statusCkerr st = (statusTBad st || statusHBad st) ∧
      (statusIllegal st = true → st = 0x01#8) := by
  rcases h with rfl | rfl | rfl | rfl | rfl <;> decide

/-- Only a DECODE can end in anything but success. -/
theorem decode_or_statusOk (f : FpFormat) (i : Instr) :
    (∃ b0 b1 b2 b3 b4 b5 : Byte, i = .decode b0 b1 b2 b3 b4 b5) ∨ statusField (answerOf f i) = statusOk := by
  cases i with
  | decode b0 b1 b2 b3 b4 b5 => exact .inl ⟨b0, b1, b2, b3, b4, b5, rfl⟩
  | _ => exact .inr (statusField_append _ _)

/-- The STATUS of a failed DECODE has CKERR set, and T_BAD and H_BAD as they were raised (R176). -/
theorem status_checksum_bits (tBad hBad : Bool) :
    statusCkerr (Error.checksum tBad hBad).status = true ∧ statusIllegal (Error.checksum tBad hBad).status = false ∧
      statusTBad (Error.checksum tBad hBad).status = tBad ∧ statusHBad (Error.checksum tBad hBad).status = hBad := by
  revert tBad hBad
  decide

/-- A DECODE is never ILLEGAL, and T_BAD and H_BAD say which of its fields fail. -/
theorem statusField_answerOf_decode (f : FpFormat) (b0 b1 b2 b3 b4 b5 : Byte) :
    statusIllegal (statusField (answerOf f (.decode b0 b1 b2 b3 b4 b5))) = false ∧
    statusTBad (statusField (answerOf f (.decode b0 b1 b2 b3 b4 b5))) = (crc8 (be16 b0 b1) != b2) ∧
    statusHBad (statusField (answerOf f (.decode b0 b1 b2 b3 b4 b5))) = (crc8 (be16 b3 b4) != b5) := by
  by_cases h : crc8 (be16 b0 b1) = b2 ∧ crc8 (be16 b3 b4) = b5
  · rw [answerOf_decode_pass f h.1 h.2, statusField_append, h.1, h.2, bne_self_eq_false, bne_self_eq_false]
    decide
  · rw [answerOf_decode_fail f h, statusField_append]
    exact (status_checksum_bits _ _).2

/-- No operation answers ILLEGAL. -/
theorem statusIllegal_answerOf (f : FpFormat) (i : Instr) : statusIllegal (statusField (answerOf f i)) = false := by
  rcases decode_or_statusOk f i with ⟨b0, b1, b2, b3, b4, b5, rfl⟩ | hok
  · exact (statusField_answerOf_decode f b0 b1 b2 b3 b4 b5).1
  · rw [hok]
    rfl

/-- ILLEGAL is set exactly for the words that do not decode. -/
theorem statusIllegal_answer_iff (f : FpFormat) (w : ReqWord) :
    statusIllegal (statusField (answer f w)) = true ↔ ∃ e, decode w = .error e := by
  cases h : decode w with
  | ok i => simp [answer_of_decode_ok f h, statusIllegal_answerOf]
  | error e =>
    rw [answer_of_decode_error f h, statusField_append]
    exact iff_of_true rfl ⟨e, rfl⟩

/-- A bit of STATUS that only a DECODE can set is set exactly for the DECODE words that set it. -/
theorem status_answer_iff_decode {bit : Byte → Bool} {bad : Byte → Byte → Byte → Byte → Byte → Byte → Prop}
    (hok : bit statusOk = false) (hillegal : bit Error.illegal.status = false) (f : FpFormat)
    (hdecode : ∀ b0 b1 b2 b3 b4 b5,
      bit (statusField (answerOf f (.decode b0 b1 b2 b3 b4 b5))) = true ↔ bad b0 b1 b2 b3 b4 b5) (w : ReqWord) :
    bit (statusField (answer f w)) = true ↔
      ∃ b0 b1 b2 b3 b4 b5, decode w = .ok (.decode b0 b1 b2 b3 b4 b5) ∧ bad b0 b1 b2 b3 b4 b5 := by
  cases h : decode w with
  | error e => simp [answer_of_decode_error f h, hillegal]
  | ok i =>
    rw [answer_of_decode_ok f h]
    rcases decode_or_statusOk f i with ⟨b0, b1, b2, b3, b4, b5, rfl⟩ | hi
    · simp [hdecode]
    · have hclear : bit (statusField (answerOf f i)) ≠ true := by simp [hi, hok]
      refine iff_of_false hclear ?_
      rintro ⟨b0, b1, b2, b3, b4, b5, ⟨⟩, hbad⟩
      exact hclear ((hdecode b0 b1 b2 b3 b4 b5).mpr hbad)

/-! ### The state a transaction leaves -/

/-- An illegal word runs nothing (R177). -/
theorem validatorAfterWord_of_error {w : ReqWord} {e : DecodeReject} (h : decode w = .error e) (m : Validator) :
    validatorAfterWord w m = m := by
  rw [validatorAfterWord, h]

@[simp] theorem State.transacted_validator (w : ReqWord) (s : State) :
    (s.transacted w).validator = validatorAfterWord w s.validator := rfl

/-- After a transaction, states that agreed but for the handshake and the responses agree but for the responses. -/
theorem State.transacted_congr {s t : State} (w : ReqWord) (hparams : t.params = s.params)
    (hvalidator : t.validator = s.validator) (hpoint : t.point = s.point) (hinputs : t.inputs = s.inputs)
    (htrace : t.trace = s.trace) (hdraws : t.draws = s.draws) :
    { t.transacted w with responses := (s.transacted w).responses } = s.transacted w := by
  simp only [State.transacted, State.completed, State.deliver, State.respond, State.withValidator, State.accept, *]

end Sys2Proof.Machine

open Sys2Proof Sys2Proof.Machine

/-- Settles O7: the working values are as before, and nothing else that a transaction looks at has changed. -/
theorem illegalRequestChangesNothing : Obligations.IllegalRequestChangesNothing := by
  intro s w w' e hw
  have hvalidator : (s.transacted w).validator = s.validator := validatorAfterWord_of_error hw s.validator
  refine ⟨s.transacted w, (s.transacted w).transacted w', s.transacted w', transact_eq w s, transact_eq w' _,
    transact_eq w' s, ?_, hvalidator, rfl, rfl, rfl, rfl, rfl, ?_, ?_,
    State.transacted_congr w' rfl hvalidator rfl rfl rfl rfl⟩
  · rw [State.transacted_responses, answer_of_decode_error _ hw, Error.status]
  · rw [State.transacted_responses, State.transacted_pending, State.transacted_params]
  · rw [State.transacted_responses, State.transacted_pending]

/-- Settles O8: the answer is a legal response, and its bits are those of the operation the word asks for, or ILLEGAL. -/
theorem statusSaysWhatHappened : Obligations.StatusSaysWhatHappened := by
  intro w s
  refine ⟨s.transacted w, transact_eq w s, ?_⟩
  rw [State.transacted_pending]
  have hlegal := answer_legal s.params.fpfmt w
  obtain ⟨hhigh, hckerr, hillegal⟩ := legalStatus_bits hlegal.1
  refine ⟨hlegal, hhigh, hckerr, hillegal, statusIllegal_answer_iff _ w, ?tBad, ?hBad, ?validate⟩
  case tBad =>
    refine status_answer_iff_decode (by decide) (by decide) _ (fun b0 b1 b2 b3 b4 b5 => ?_) w
    rw [(statusField_answerOf_decode _ b0 b1 b2 b3 b4 b5).2.1, bne_iff_ne]
  case hBad =>
    refine status_answer_iff_decode (by decide) (by decide) _ (fun b0 b1 b2 b3 b4 b5 => ?_) w
    rw [(statusField_answerOf_decode _ b0 b1 b2 b3 b4 b5).2.2, bne_iff_ne]
  case validate =>
    intro v x hw
    rw [answer_of_decode_ok _ hw]
    refine ⟨statusField_append _ _, fun hx => ?_⟩
    simp [answerOf, validateContract, hx.symm]

/-- Settles O55: the answer of an operation is written with the contract it carries. -/
theorem operationsCarryTheContracts : Obligations.OperationsCarryTheContracts := by
  refine ⟨?validates, ?encodes, ?decodes, ?converts⟩
  case validates =>
    intro v x s
    refine ⟨_, exec_eq (.validate v x) s, ?_⟩
    cases h : validateContract v x <;> simp [answerOf, h]
  case encodes =>
    intro c s
    refine ⟨_, exec_eq c.request s, ?_⟩
    rw [State.respond_pending, dataField_append, dataLo16_answerOf_request]
    rfl
  case decodes =>
    intro r s
    refine ⟨_, exec_eq r.request s, ?_⟩
    by_cases h : crc8 r.temp = r.tempSum ∧ crc8 r.humid = r.humidSum
    · have hcontract : decodeContract r = .ok ⟨r.temp, r.humid⟩ := by simp [decodeContract, validateContract, h]
      rw [hcontract, State.respond_pending, statusField_append_dataField, RawReading.request,
        answerOf_decode_pass _ (by simp [h]) (by simp [h]), be16_hi8_lo8, be16_hi8_lo8, dataField_append]
      exact ⟨statusField_append _ _, dataHi16_append _ _ _, dataLo16_append _ _ _⟩
    · have hcontract : decodeContract r = .error .checksumError := by simp [decodeContract, validateContract, h]
      rw [hcontract, State.respond_pending, statusField_append_dataField, RawReading.request,
        answerOf_decode_fail _ (by simpa using h), statusField_append, dataField_append]
      exact ⟨(status_checksum_bits _ _).1, rfl⟩
  case converts =>
    intro m s
    exact ⟨_, _, exec_eq (.cvtTc m.temp) s, exec_eq (.cvtRh m.humid) s, by simp [answerOf, toPhysical],
      by simp [answerOf, toPhysical]⟩

end

section
/-! SUPPORT. No step stops the machine, changes a parameter or takes back an observation (30_encoding.md R59, 60_exceptions.md
R182, 70_reset_and_hazards.md R212): the records of responses and of the trace only grow. -/

namespace Sys2Proof.Machine

/-- `t` has the parameters of `s`, and the observations of `s` are the first of its own (R122, R212). -/
structure State.ExtendedBy (s t : State) : Prop where
  params : t.params = s.params
  responses : s.responses <+: t.responses
  trace : s.trace <+: t.trace

namespace State.ExtendedBy

variable {s t : State}

theorem refl (s : State) : s.ExtendedBy s := ⟨rfl, List.prefix_rfl, List.prefix_rfl⟩

theorem withInputs (h : s.ExtendedBy t) (l : List Input) : s.ExtendedBy (t.withInputs l) :=
  ⟨h.params, h.responses, h.trace⟩

theorem deliver (h : s.ExtendedBy t) : s.ExtendedBy t.deliver :=
  ⟨h.params, h.responses.trans (List.prefix_append _ _), h.trace⟩

theorem transacted (h : s.ExtendedBy t) (w : ReqWord) : s.ExtendedBy (t.transacted w) :=
  ExtendedBy.deliver ⟨h.params, h.responses, h.trace⟩

theorem goto (h : s.ExtendedBy t) (p : Point) : s.ExtendedBy (t.goto p) :=
  ⟨h.params, h.responses, h.trace⟩

theorem log_goto (h : s.ExtendedBy t) (e : HostEvent) (p : Point) : s.ExtendedBy ((t.log e).goto p) :=
  ⟨h.params, h.responses, h.trace.trans (List.prefix_append _ _)⟩

theorem cvc (h : s.ExtendedBy t) (i : Instr) (next : Byte → Data → Point) :
    ∃ u, Machine.cvc i t next = .next u ∧ s.ExtendedBy u :=
  ⟨_, cvc_eq i t next, (h.transacted _).goto _⟩

theorem obtainFrame (h : s.ExtendedBy t) (i : Instr) (word : Code) (a : EnvAnswer) (next : Code → Point) :
    ∃ u, Machine.obtainFrame i word a t next = .next u ∧ s.ExtendedBy u := by
  rcases obtainFrame_cases i word a t next with ⟨_, e⟩ | ⟨_, e⟩
  · exact ⟨_, e, h.goto _⟩
  · rw [e]
    exact h.cvc i _

/-- Every clock edge keeps the parameters and what has been observed: a reset too (log 22). -/
theorem clockEdge (h : s.ExtendedBy t) (p : Pins) : ∃ u, Machine.clockEdge p t = .next u ∧ s.ExtendedBy u := by
  rcases clockEdge_cases p t with ⟨_, e⟩ | ⟨_, e⟩ | ⟨_, _, _, _, e⟩ | ⟨_, _, _, _, e⟩ | ⟨_, _, _, _, e⟩ |
    ⟨_, _, _, _, e⟩ | ⟨_, _, _, e⟩
  · exact ⟨_, e, h.params, h.responses, h.trace⟩
  · exact ⟨_, e, h⟩
  · exact ⟨_, e, h.deliver⟩
  · exact ⟨_, e.trans (complete_eq t), h.params, h.responses, h.trace⟩
  · exact ⟨_, e, h.params, h.responses, h.trace⟩
  · exact ⟨_, e.trans (complete_eq _), h.params, h.responses, h.trace⟩
  · exact ⟨_, e, h.params, h.responses, h.trace⟩

/-- Every line of the Orchestrator keeps the parameters and what has been observed. -/
theorem hostStep (h : s.ExtendedBy t) (a : EnvAnswer) : ∃ u, Machine.hostStep a t = .next u ∧ s.ExtendedBy u := by
  unfold Machine.hostStep
  cases t.point with
  | askPup | askMeas | askPdn => exact h.obtainFrame _ _ a _
  | haveBytes bytes =>
    dsimp only
    split
    · exact ⟨_, rfl, h.log_goto _ _⟩
    · exact h.cvc _ _
  | convert rawTemp rawHumid =>
    dsimp only
    split
    · exact h.cvc _ _
    · exact h.cvc _ _
  | askHumid | askTemp => exact h.cvc _ _
  | sendPup | sendMeas | sendPdn | settle | reportPupFail | reportMeasFail | reportChecksum | reportReading
  | reportPdnFail | rest => exact ⟨_, rfl, h.log_goto _ _⟩

/-- Every step of every agent answers a next state that keeps the parameters and what has been observed. -/
theorem step (s : State) : ∃ t, Machine.step s = .next t ∧ s.ExtendedBy t := by
  have hself : s.ExtendedBy s := .refl s
  cases hin : s.inputs with
  | nil => exact ⟨s, step_of_no_input hin, hself⟩
  | cons x rest =>
    cases x with
    | request w =>
      rw [step_of_request hin]
      split
      · exact ⟨_, rfl, (hself.withInputs rest).transacted w⟩
      · exact hself.clockEdge waitPins
    | edge p =>
      rw [step_of_edge hin]
      exact (hself.withInputs rest).clockEdge p
    | host a =>
      rw [step_of_host hin]
      split
      · exact (hself.withInputs rest).hostStep a
      · exact hself.clockEdge waitPins

end State.ExtendedBy

end Sys2Proof.Machine

open Sys2Proof Sys2Proof.Machine

/-- Settles O53, by the agent that moves: CVC only delivers, and the Orchestrator only logs. -/
theorem noStepStopsOrForgets : Obligations.NoStepStopsOrForgets := by
  intro s
  obtain ⟨t, hstep, hext⟩ := State.ExtendedBy.step s
  exact ⟨t, hstep, hext.params, hext.responses, hext.trace⟩

end

section
/-! SUPPORT. Stretches of the Orchestrator's program (44_session_orchestrator.md R151 to R154, R156, R164, R165): what a list of
its lines does as a whole, one rule per kind of line, and the stretches a cycle is made of. -/

namespace Sys2Proof.Machine

/-- `j + k` steps are `j` steps and then `k`. -/
theorem run_add {j : Nat} {s t : State} (h : Sys2Proof.core.run j s = .next t) (k : Nat) :
    Sys2Proof.core.run (j + k) s = Sys2Proof.core.run k t := by
  induction j generalizing s with
  | zero =>
    cases h
    rw [Nat.zero_add]
  | succ j ih =>
    rw [Nat.succ_add]
    cases hs : Sys2Proof.core.step s with
    | next u =>
      simp only [Host.Core.run, hs] at h ⊢
      exact ih h
    | fault r => simp [Host.Core.run, hs] at h
    | refused r => simp [Host.Core.run, hs] at h

theorem run_one {s t : State} (h : step s = .next t) : Sys2Proof.core.run 1 s = .next t := by
  have hstep : Sys2Proof.core.step s = .next t := h
  simp [Host.Core.run, hstep]

/-- From `s` the Orchestrator has come to line `b` in `t`, with CVC idle, the events `es`, and the responses to the requests
`is`. -/
structure State.Passed (s t : State) (b : Point) (es : List HostEvent) (is : List Instr) : Prop where
  point : t.point = b
  idle : t.idle = true
  params : t.params = s.params
  trace : t.trace = s.trace ++ es
  responses : t.responses = s.responses ++ is.map (answerOf s.params.fpfmt)

theorem State.Passed.trans {s t u : State} {b c : Point} {es es' : List HostEvent} {is is' : List Instr}
    (h : s.Passed t b es is) (h' : t.Passed u c es' is') : s.Passed u c (es ++ es') (is ++ is') where
  point := h'.point
  idle := h'.idle
  params := h'.params.trans h.params
  trace := by rw [h'.trace, h.trace, List.append_assoc]
  responses := by rw [h'.responses, h.responses, h.params, List.append_assoc, List.map_append]

/-- Under the parameters `p`, with CVC idle and nothing between them, the lines that take the answers `xs` lead from line `a` to
line `b`, with the events `es` and the requests `is`. -/
def Leads (p : Params) (xs : List EnvAnswer) (a b : Point) (es : List HostEvent) (is : List Instr) : Prop :=
  ∀ (s : State) (rest : List Input), s.idle = true → s.point = a → s.inputs = xs.map .host ++ rest → s.params = p →
    ∃ t : State, Sys2Proof.core.run xs.length s = .next t ∧ t.inputs = rest ∧ s.Passed t b es is

namespace Leads

variable {p : Params} {a b c : Point} {x : EnvAnswer}

theorem trans {xs xs' : List EnvAnswer} {es es' : List HostEvent} {is is' : List Instr} (h : Leads p xs a b es is)
    (h' : Leads p xs' b c es' is') : Leads p (xs ++ xs') a c (es ++ es') (is ++ is') := by
  intro s rest hidle hpoint hinputs hparams
  obtain ⟨t, hrun, tinputs, hpassed⟩ := h s (xs'.map .host ++ rest) hidle hpoint (by simpa using hinputs) hparams
  obtain ⟨u, hrun', uinputs, hpassed'⟩ := h' t rest hpassed.idle hpassed.point tinputs (hpassed.params.trans hparams)
  exact ⟨u, by rw [List.length_append, run_add hrun, hrun'], uinputs, hpassed.trans hpassed'⟩

/-- One line, from what it does in every idle state. -/
theorem of_hostStep {es : List HostEvent} {is : List Instr}
    (h : ∀ s : State, s.idle = true → s.point = a → s.params = p →
      ∃ t : State, hostStep x s = .next t ∧ t.inputs = s.inputs ∧ s.Passed t b es is) : Leads p [x] a b es is := by
  intro s rest hidle hpoint hinputs hparams
  obtain ⟨t, hline, tinputs, hpassed⟩ := h (s.withInputs rest) hidle hpoint hparams
  have hstep : step s = .next t := by
    rw [step_of_host (a := x) (rest := rest) hinputs, if_pos (.inl hidle), hline]
  exact ⟨t, run_one hstep, tinputs, hpassed.point, hpassed.idle, hpassed.params, hpassed.trace, hpassed.responses⟩

/-- A line that is one call, sleep or report of the host. -/
theorem event {e : HostEvent}
    (h : ∀ s : State, s.point = a → s.params = p → hostStep x s = .next ((s.log e).goto b)) : Leads p [x] a b [e] [] :=
  of_hostStep fun s hidle hpoint hparams =>
    ⟨_, h s hpoint hparams, rfl, rfl, hidle, rfl, rfl, (List.append_nil _).symm⟩

/-- A line that is one request to CVC. -/
theorem request {i : Instr} {next : Byte → Data → Point} (h : ∀ s : State, s.point = a → hostStep x s = cvc i s next) :
    Leads p [x] a (next (statusField (answerOf p.fpfmt i)) (dataField (answerOf p.fpfmt i))) [] [i] := by
  refine of_hostStep fun s hidle hpoint hparams => ⟨_, (h s hpoint).trans (cvc_eq i s next), rfl, ?_⟩
  exact ⟨by rw [hparams]; rfl, rfl, rfl, (List.append_nil _).symm, by simp⟩

/-- A line that obtains a command frame, from CVC or from the host's own constant (R165; log 31). -/
theorem frame (cmd : Command) {next : Code → Point}
    (h : ∀ s : State, s.point = a → hostStep x s = obtainFrame cmd.request cmd.word x s next) :
    Leads p [x] a (next cmd.word) [] (x.frameRequests cmd.request) := by
  cases hown : x.ownFrame with
  | true =>
    refine of_hostStep fun s hidle hpoint hparams => ⟨s.goto (next cmd.word), ?_, rfl, rfl, hidle, rfl, ?_, ?_⟩
    · simp [h s hpoint, obtainFrame, hown]
    · simp
    · simp [EnvAnswer.frameRequests, hown]
  | false =>
    have hcvc : ∀ s : State, s.point = a → hostStep x s = cvc cmd.request s fun _ d => next (dataLo16 d) :=
      fun s hpoint => by simp [h s hpoint, obtainFrame, hown]
    simpa [EnvAnswer.frameRequests, hown, dataLo16_answerOf_request] using request (p := p) hcvc

end Leads

/-! ### The lines, each by itself -/

section
variable (p : Params) (x : EnvAnswer)

theorem leads_askPup : Leads p [x] .askPup (.sendPup powerUpWord) [] (x.frameRequests .encPup) :=
  .frame .powerUp fun s hs => by simp [hostStep, hs, Command.request, Command.word]

theorem leads_askMeas : Leads p [x] .askMeas (.sendMeas measureWord) [] (x.frameRequests .encMeas) :=
  .frame .measure fun s hs => by simp [hostStep, hs, Command.request, Command.word]

theorem leads_askPdn : Leads p [x] .askPdn (.sendPdn powerDownWord) [] (x.frameRequests .encPdn) :=
  .frame .powerDown fun s hs => by simp [hostStep, hs, Command.request, Command.word]

/-- The PowerUp write, with either outcome (R151, R157 row 1). -/
theorem leads_sendPup (cmd : Code) : Leads p [x] (.sendPup cmd) (if x.ok then .settle else .reportPupFail)
    [.wrote busAddress (wireBytes cmd) p.timeout x.ok] [] :=
  .event fun s hs hp => by simp [hostStep, hs, write, hp]

theorem leads_settle : Leads p [x] .settle .askMeas [.slept (p.settleMin + x.extra)] [] :=
  .event fun s hs hp => by simp [hostStep, hs, hp]

/-- The Measure call, with either outcome (R152, R157 row 2). -/
theorem leads_sendMeas (cmd : Code) : Leads p [x] (.sendMeas cmd) (if x.ok then .haveBytes x.bytes else .reportMeasFail)
    [.wroteRead busAddress (wireBytes cmd) frameLen p.timeout (if x.ok then some x.bytes else none)] [] :=
  .event fun s hs hp => by simp [hostStep, hs, measure, hp]

/-- The DECODE of six bytes: its STATUS decides what follows (R153, R156). -/
theorem leads_decode (b0 b1 b2 b3 b4 b5 : Byte) :
    Leads p [x] (.haveBytes [b0, b1, b2, b3, b4, b5])
      (if statusField (answerOf p.fpfmt (.decode b0 b1 b2 b3 b4 b5)) = statusOk then
        .convert (dataHi16 (dataField (answerOf p.fpfmt (.decode b0 b1 b2 b3 b4 b5))))
          (dataLo16 (dataField (answerOf p.fpfmt (.decode b0 b1 b2 b3 b4 b5))))
      else .reportChecksum) [] [.decode b0 b1 b2 b3 b4 b5] :=
  .request (next := fun st d => if st = statusOk then .convert (dataHi16 d) (dataLo16 d) else .reportChecksum)
    fun s hs => by simp [hostStep, hs, frameRequest]

theorem leads_decode_pass {b0 b1 b2 b3 b4 b5 : Byte} (ht : crc8 (be16 b0 b1) = b2) (hh : crc8 (be16 b3 b4) = b5) :
    Leads p [x] (.haveBytes [b0, b1, b2, b3, b4, b5]) (.convert (be16 b0 b1) (be16 b3 b4)) []
      [.decode b0 b1 b2 b3 b4 b5] := by
  have h := leads_decode p x b0 b1 b2 b3 b4 b5
  rwa [answerOf_decode_pass _ ht hh, statusField_append, dataField_append, if_pos rfl, dataHi16_append, dataLo16_append]
    at h

theorem leads_decode_fail {b0 b1 b2 b3 b4 b5 : Byte} (hbad : ¬(crc8 (be16 b0 b1) = b2 ∧ crc8 (be16 b3 b4) = b5)) :
    Leads p [x] (.haveBytes [b0, b1, b2, b3, b4, b5]) .reportChecksum [] [.decode b0 b1 b2 b3 b4 b5] := by
  have h := leads_decode p x b0 b1 b2 b3 b4 b5
  rwa [answerOf_decode_fail _ hbad, statusField_append, if_neg (checksum_status_ne_statusOk _ _)] at h

theorem leads_convert_humid (rawTemp rawHumid : Code) (hfirst : x.humidFirst = true) :
    Leads p [x] (.convert rawTemp rawHumid) (.askTemp x.fixed (humidityData p.fpfmt x.fixed rawHumid) rawTemp) []
      [humidityRequest x.fixed rawHumid] := by
  rw [← dataField_humidityRequest]
  exact .request (next := fun _ d => .askTemp x.fixed d rawTemp) fun s hs => by simp [hostStep, hs, hfirst]

theorem leads_convert_temp (rawTemp rawHumid : Code) (hfirst : x.humidFirst = false) :
    Leads p [x] (.convert rawTemp rawHumid) (.askHumid x.fixed (temperatureData p.fpfmt x.fixed rawTemp) rawHumid) []
      [temperatureRequest x.fixed rawTemp] := by
  rw [← dataField_temperatureRequest]
  exact .request (next := fun _ d => .askHumid x.fixed d rawHumid) fun s hs => by simp [hostStep, hs, hfirst]

theorem leads_askTemp (humidFixed : Bool) (humid : Data) (rawTemp : Code) :
    Leads p [x] (.askTemp humidFixed humid rawTemp)
      (.reportReading ⟨x.fixed, humidFixed, temperatureData p.fpfmt x.fixed rawTemp, humid⟩) []
      [temperatureRequest x.fixed rawTemp] := by
  rw [← dataField_temperatureRequest]
  exact .request (next := fun _ d => .reportReading ⟨x.fixed, humidFixed, d, humid⟩) fun s hs => by simp [hostStep, hs]

theorem leads_askHumid (tempFixed : Bool) (temp : Data) (rawHumid : Code) :
    Leads p [x] (.askHumid tempFixed temp rawHumid)
      (.reportReading ⟨tempFixed, x.fixed, temp, humidityData p.fpfmt x.fixed rawHumid⟩) []
      [humidityRequest x.fixed rawHumid] := by
  rw [← dataField_humidityRequest]
  exact .request (next := fun _ d => .reportReading ⟨tempFixed, x.fixed, temp, d⟩) fun s hs => by simp [hostStep, hs]

theorem leads_reportChecksum : Leads p [x] .reportChecksum .askPdn [.reported .checksumError] [] :=
  .event fun s hs _ => by simp [hostStep, hs, report]

theorem leads_reportReading (r : Reading) :
    Leads p [x] (.reportReading r) .askPdn [.reported (.physicalReading r)] [] :=
  .event fun s hs _ => by simp [hostStep, hs, report]

/-- The PowerDown write, with either outcome (R153, R157 row 3). -/
theorem leads_sendPdn (cmd : Code) : Leads p [x] (.sendPdn cmd) (if x.ok then .rest true else .reportPdnFail)
    [.wrote busAddress (wireBytes cmd) p.timeout x.ok] [] :=
  .event fun s hs hp => by simp [hostStep, hs, write, hp]

theorem leads_rest (powerUpOk : Bool) : Leads p [x] (.rest powerUpOk) .askPup [.slept p.cycleDelay] [] :=
  .event fun s hs hp => by simp [hostStep, hs, hp]

end

/-! ### The stretches of a cycle whose calls succeed -/

section
variable (p : Params)

/-- The two conversions, in the order and of the families the host chooses (R45, R165). -/
theorem leads_conversions (x y : EnvAnswer) (rawTemp rawHumid : Code) :
    Leads p [x, y] (.convert rawTemp rawHumid)
      (.reportReading (if x.humidFirst then
        ⟨y.fixed, x.fixed, temperatureData p.fpfmt y.fixed rawTemp, humidityData p.fpfmt x.fixed rawHumid⟩
      else ⟨x.fixed, y.fixed, temperatureData p.fpfmt x.fixed rawTemp, humidityData p.fpfmt y.fixed rawHumid⟩)) []
      (if x.humidFirst then [humidityRequest x.fixed rawHumid, temperatureRequest y.fixed rawTemp]
        else [temperatureRequest x.fixed rawTemp, humidityRequest y.fixed rawHumid]) := by
  cases hfirst : x.humidFirst with
  | true => exact (leads_convert_humid p x rawTemp rawHumid hfirst).trans (leads_askTemp p y _ _ rawTemp)
  | false => exact (leads_convert_temp p x rawTemp rawHumid hfirst).trans (leads_askHumid p y _ _ rawHumid)

/-- From the beginning of a cycle to the bytes that were read (R151, R152). -/
theorem leads_toBytes (x1 x2 x3 x4 x5 : EnvAnswer) (h2 : x2.ok = true) (h5 : x5.ok = true) :
    Leads p [x1, x2, x3, x4, x5] .askPup (.haveBytes x5.bytes)
      [.wrote busAddress (wireBytes powerUpWord) p.timeout true, .slept (p.settleMin + x3.extra),
        .wroteRead busAddress (wireBytes measureWord) frameLen p.timeout (some x5.bytes)]
      (x1.frameRequests .encPup ++ x4.frameRequests .encMeas) := by
  have hsendPup := leads_sendPup p x2 powerUpWord
  have hsendMeas := leads_sendMeas p x5 measureWord
  rw [h2] at hsendPup
  rw [h5] at hsendMeas
  have h := (leads_askPup p x1).trans (hsendPup.trans ((leads_settle p x3).trans ((leads_askMeas p x4).trans hsendMeas)))
  simpa using h

/-- From the report to the beginning of the next cycle (R153, R154). -/
theorem leads_powerDown (x y z : EnvAnswer) (hok : y.ok = true) :
    Leads p [x, y, z] .askPdn .askPup [.wrote busAddress (wireBytes powerDownWord) p.timeout true, .slept p.cycleDelay]
      (x.frameRequests .encPdn) := by
  have hsend := leads_sendPdn p y powerDownWord
  rw [hok] at hsend
  have h := (leads_askPdn p x).trans (hsend.trans (leads_rest p z true))
  simpa using h

end

end Sys2Proof.Machine

open Sys2Proof Sys2Proof.Machine

/-- Settles O44, stretch by stretch: to the bytes, through DECODE and the conversions to the report, and on to PowerDown and
the delay. -/
theorem cycleWithTransportReportsTheReading : Obligations.CycleWithTransportReportsTheReading := by
  constructor
  · intro s rest x1 x2 x3 x4 x5 x6 x7 x8 x9 x10 x11 x12 b0 b1 b2 b3 b4 b5 hidle hpoint hinputs h2 h5 hbytes h11 ht hh
    have hstart := leads_toBytes s.params x1 x2 x3 x4 x5 h2 h5
    rw [hbytes] at hstart
    have hcycle := hstart.trans <| (leads_decode_pass s.params x6 ht hh).trans <|
      (leads_conversions s.params x7 x8 _ _).trans <| (leads_reportReading s.params x9 _).trans <|
      leads_powerDown s.params x10 x11 x12 h11
    obtain ⟨t, hrun, tinputs, hpassed⟩ := hcycle s rest hidle hpoint hinputs rfl
    refine ⟨t, hrun, hpassed.point, hpassed.idle, tinputs, hpassed.params, hpassed.trace, ?_⟩
    rw [hpassed.responses]
    simp only [List.nil_append, List.append_assoc]
  · intro s rest x1 x2 x3 x4 x5 x6 x7 x8 x9 x10 b0 b1 b2 b3 b4 b5 hidle hpoint hinputs h2 h5 hbytes h9 hbad
    have hstart := leads_toBytes s.params x1 x2 x3 x4 x5 h2 h5
    rw [hbytes] at hstart
    have hcycle := hstart.trans <| (leads_decode_fail s.params x6 hbad).trans <|
      (leads_reportChecksum s.params x7).trans <| leads_powerDown s.params x8 x9 x10 h9
    obtain ⟨t, hrun, tinputs, hpassed⟩ := hcycle s rest hidle hpoint hinputs rfl
    refine ⟨t, hrun, hpassed.point, hpassed.idle, tinputs, hpassed.params, hpassed.trace, ?_⟩
    rw [hpassed.responses]
    simp only [List.nil_append, List.append_assoc]

end

section
/-! SUPPORT. The text of requests (30_encoding.md R57; log 25): how a line falls into words, and that numbers and mnemonics are read
as they are written. -/

namespace Sys2Proof.Machine

/-! ### Words of a line -/

/-- A non-empty string without a space, a comma or a semicolon: `lineWords` does not cut it. -/
structure IsWord (word : List Char) : Prop where
  ne_nil : word ≠ []
  uncut : ∀ c ∈ word, c ∉ [';', ',', ' ']

/-- Characters that do not cut go to the word that stands before them. -/
theorem lineWords_append {word : List Char} (h : ∀ c ∈ word, c ∉ [';', ',', ' ']) (before rest : List Char) :
    lineWords before (word ++ rest) = lineWords (before ++ word) rest := by
  induction word generalizing before with
  | nil => simp
  | cons c cs ih =>
    obtain ⟨hc, hcs⟩ := List.forall_mem_cons.mp h
    simp only [List.mem_cons, List.not_mem_nil, or_false, not_or] at hc
    obtain ⟨hsemicolon, hcomma, hspace⟩ := hc
    rw [List.cons_append, lineWords, if_neg hsemicolon, if_neg hcomma, if_neg hspace, ih hcs, List.append_assoc]
    rfl

namespace IsWord

variable {word : List Char} (h : IsWord word)
include h

/-- The last word of a line. -/
theorem lineWords_last : lineWords [] word = [word] := by
  have hcut := lineWords_append h.uncut [] []
  rw [List.append_nil, List.nil_append] at hcut
  simp [hcut, lineWords, h.ne_nil]

/-- A word before a space. -/
theorem lineWords_space (rest : List Char) : lineWords [] (word ++ ' ' :: rest) = word :: lineWords [] rest := by
  simp [lineWords_append h.uncut, lineWords, h.ne_nil]

/-- A word before a comma and a space. -/
theorem lineWords_comma (rest : List Char) :
    lineWords [] (word ++ ',' :: ' ' :: rest) = word :: [','] :: lineWords [] rest := by
  simp [lineWords_append h.uncut, lineWords, h.ne_nil]

end IsWord

/-! ### Numbers -/

/-- A hexadecimal digit has its value, and does not cut a word. -/
theorem hexChars_spec : ∀ d < 16, hexValue (hexChars.getD d '0') = some d ∧ hexChars.getD d '0' ∉ [';', ',', ' '] := by
  decide

theorem hexText_uncut (digits v : Nat) : ∀ c ∈ hexText digits v, c ∉ [';', ',', ' '] := by
  induction digits generalizing v with
  | zero => exact nofun
  | succ digits ih =>
    rw [hexText, List.forall_mem_append]
    exact ⟨ih (v / 16), List.forall_mem_singleton.mpr (hexChars_spec _ (Nat.mod_lt v (by decide))).2⟩

theorem isWord_hexText (digits v : Nat) : IsWord (hexText (digits + 1) v) :=
  ⟨by simp [hexText], hexText_uncut _ v⟩

theorem isWord_numberText (digits v : Nat) : IsWord (numberText digits v) where
  ne_nil := List.cons_ne_nil _ _
  uncut := by
    rw [numberText, List.forall_mem_cons, List.forall_mem_cons]
    exact ⟨by decide, by decide, hexText_uncut digits v⟩

/-- Digits are read from the left. -/
theorem hexNumber_append (acc : Nat) (l l' : List Char) :
    hexNumber acc (l ++ l') = (hexNumber acc l).bind fun n => hexNumber n l' := by
  induction l generalizing acc with
  | nil => rfl
  | cons c cs ih =>
    simp only [List.cons_append, hexNumber]
    cases hexValue c with
    | none => rfl
    | some d => exact ih _

/-- A number that has enough digits is read as it was written. -/
theorem hexNumber_hexText {digits v : Nat} (h : v < 16 ^ digits) : hexNumber 0 (hexText digits v) = some v := by
  induction digits generalizing v with
  | zero =>
    rw [Nat.lt_one_iff.mp h]
    rfl
  | succ digits ih =>
    have hdigit := (hexChars_spec _ (Nat.mod_lt v (by decide))).1
    have hrest := ih (Nat.div_lt_of_lt_mul (by rwa [Nat.mul_comm, ← Nat.pow_succ]))
    rw [hexText, hexNumber_append, hrest]
    simp only [Option.bind_some, hexNumber, hdigit, Nat.div_add_mod]

/-- A bit vector is read as it was written, if the digits hold its width. -/
theorem parseNumber_numberText {width digits : Nat} (v : BitVec width) (h : 2 ^ width ≤ 16 ^ (digits + 1)) :
    parseNumber width (numberText (digits + 1) v.toNat) = some v := by
  have hread := hexNumber_hexText (Nat.lt_of_lt_of_le v.isLt h)
  obtain ⟨c, cs, hcs⟩ := List.exists_cons_of_ne_nil (isWord_hexText digits v.toNat).ne_nil
  rw [hcs] at hread
  simp [parseNumber, numberText, hcs, hread, v.isLt]

theorem parseByte_hexText (b : Byte) : parseByte (hexText 2 b.toNat) = some b := by
  have hread : hexNumber 0 (hexText 2 b.toNat) = some b.toNat := hexNumber_hexText b.isLt
  simp only [hexText, List.nil_append, List.cons_append] at hread ⊢
  simp only [parseByte, hread, Option.map_some, BitVec.ofNat_toNat, BitVec.setWidth_eq]

/-! ### Mnemonics -/

theorem isWord_mnemonic (i : Instr) : IsWord i.mnemonic.toList := by
  constructor
  · cases i <;> simp [Instr.mnemonic]
  · cases i <;> simp [Instr.mnemonic]

theorem mnemonic_ne_word (i : Instr) : i.mnemonic.toList ≠ ".word".toList := by
  cases i <;> simp [Instr.mnemonic]

/-- A line that does not begin with `.word` is read by its mnemonic. -/
theorem assembleLine_of_words {line name : List Char} {args : List (List Char)} (h : lineWords [] line = name :: args)
    (hname : name ≠ ".word".toList) : assembleLine line = .ofInstr (operandsOf name args) := by
  simp only [assembleLine, h, if_neg hname]

/-- The line of an operation, if its words after the mnemonic are read as its operands. -/
theorem assembleLine_mnemonic {line : List Char} {args : List (List Char)} (i : Instr)
    (h : lineWords [] line = i.mnemonic.toList :: args) (hargs : operandsOf i.mnemonic.toList args = some i) :
    assembleLine line = .request (encode i) := by
  rw [assembleLine_of_words h (mnemonic_ne_word i), hargs, AsmLine.ofInstr]

/-- The text of an operation assembles to its encoding. -/
theorem assembleLine_requestText (i : Instr) : assembleLine (requestText i) = .request (encode i) := by
  have hname := isWord_mnemonic i
  cases i with
  | crc8 c | cvtTc c | cvtTf c | cvtRh c | cvtxTc c | cvtxTf c | cvtxRh c =>
    refine assembleLine_mnemonic _ ((hname.lineWords_space _).trans
      (congrArg _ (isWord_numberText 4 c.toNat).lineWords_last)) ?_
    have hc := parseNumber_numberText (digits := 3) c (by decide)
    simp [operandsOf, Instr.mnemonic, codeOperand, hc]
  | validate v e =>
    refine assembleLine_mnemonic (args := [numberText 4 v.toNat, [','], numberText 2 e.toNat]) _ ?_ ?_
    · rw [requestText, List.append_assoc, List.cons_append, hname.lineWords_space,
        (isWord_numberText 4 v.toNat).lineWords_comma, (isWord_numberText 2 e.toNat).lineWords_last]
    · have hv := parseNumber_numberText (digits := 3) v (by decide)
      have he := parseNumber_numberText (digits := 1) e (by decide)
      simp [operandsOf, Instr.mnemonic, hv, he]
  | encPup | encPdn | encMeas => exact assembleLine_mnemonic _ hname.lineWords_last rfl
  | decode b0 b1 b2 b3 b4 b5 =>
    have hbyte : ∀ b : Byte, IsWord (hexText 2 b.toNat) := fun b => isWord_hexText 1 b.toNat
    refine assembleLine_mnemonic (args := [b0, b1, b2, b3, b4, b5].map fun b => hexText 2 b.toNat) _ ?_ ?_
    · simp only [requestText, List.append_assoc, List.cons_append, hname.lineWords_space, (hbyte _).lineWords_space,
        (hbyte b5).lineWords_last]
      rfl
    · simp [operandsOf, Instr.mnemonic, parseByte_hexText]

/-- `.word` and a request word assemble to the word. -/
theorem assembleLine_wordText (w : ReqWord) : assembleLine (wordText w) = .request w := by
  have hname : IsWord ".word".toList := ⟨by simp, by simp⟩
  have hwords : lineWords [] (wordText w) = [".word".toList, numberText 14 w.toNat] :=
    (hname.lineWords_space _).trans (congrArg _ (isWord_numberText 14 w.toNat).lineWords_last)
  simp only [assembleLine, hwords, if_true, parseNumber_numberText (digits := 13) w (by decide)]

/-- The mnemonic form spells encodings only. -/
theorem exists_encode_of_assembleLine {line : List Char} {w : ReqWord} (h : assembleLine line = .request w)
    (hhead : (lineWords [] line).head? ≠ some ".word".toList) : ∃ i, encode i = w := by
  cases hwords : lineWords [] line with
  | nil => simp [assembleLine, hwords] at h
  | cons name args =>
    have hname : name ≠ ".word".toList := fun e => hhead (by rw [hwords, e]; rfl)
    rw [assembleLine_of_words hwords hname] at h
    cases hargs : operandsOf name args with
    | none => simp [hargs, AsmLine.ofInstr] at h
    | some i => exact ⟨i, by simpa [hargs, AsmLine.ofInstr] using h⟩

end Sys2Proof.Machine

open Sys2Proof Sys2Proof.Machine

/-- Settles O56: words, digits and mnemonics are read as they are written, and the mnemonic form assembles through `encode`. -/
theorem textSpellsRequests : Obligations.TextSpellsRequests := by
  refine ⟨assembleLine_requestText, assembleLine_wordText, fun line w h hhead => ?_⟩
  obtain ⟨i, rfl⟩ := exists_encode_of_assembleLine h hhead
  exact ⟨i, decode_encode i⟩

end

section
/-! SUPPORT. The checksum as a function (40_checksum_validator.md R71, R72, R80 to R82): one iteration is injective and linear
over XOR, and `step8` and the checksum inherit both. -/

namespace Sys2Proof.Machine

/-! ### XOR -/

theorem xor_xor_xor_comm {n : Nat} (a b c d : BitVec n) : a ^^^ b ^^^ (c ^^^ d) = a ^^^ c ^^^ (b ^^^ d) := by ac_rfl

theorem xor_left_bijective {n : Nat} (a : BitVec n) : Function.Bijective fun x => a ^^^ x :=
  Function.Involutive.bijective fun x => by simp

theorem xor_right_bijective {n : Nat} (a : BitVec n) : Function.Bijective fun x => x ^^^ a :=
  Function.Involutive.bijective fun x => by simp

section
variable {n m : Nat} {f : BitVec n → BitVec m} (hf : ∀ x y, f (x ^^^ y) = f x ^^^ f y)
include hf

theorem map_zero_of_xor : f 0#n = 0#m := by simpa using hf 0#n 0#n

/-- A function that is linear over XOR is injective if only zero goes to zero. -/
theorem injective_of_xor (hzero : ∀ x, f x = 0#m → x = 0#n) : Function.Injective f := by
  intro x y hxy
  exact BitVec.xor_eq_zero_iff.mp (hzero _ (by rw [hf, hxy, BitVec.xor_self]))

end

/-! ### One iteration and `step8` (R71) -/

theorem crcShift_xor (a b : Byte) : crcShift (a ^^^ b) = crcShift a ^^^ crcShift b := by
  have hshift : (a ^^^ b) <<< 1 = a <<< 1 ^^^ b <<< 1 := BitVec.shiftLeft_xor_distrib a b 1
  simp only [crcShift, BitVec.getLsbD_xor, hshift]
  cases a.getLsbD 7 <;> cases b.getLsbD 7
  case true.true => simpa using (xor_xor_xor_comm (a <<< 1) crcPoly (b <<< 1) crcPoly).symm
  all_goals simp <;> ac_rfl

/-- No iteration loses a bit: the polynomial has bit 0 set, so the bit that is shifted out stands in bit 0 of the result. -/
theorem eq_zero_of_crcShift_eq_zero : ∀ a : Byte, crcShift a = 0#8 → a = 0#8 := by decide

theorem crcShift_injective : Function.Injective crcShift :=
  injective_of_xor crcShift_xor eq_zero_of_crcShift_eq_zero

theorem iterate_crcShift_xor (k : Nat) (a b : Byte) : crcShift^[k] (a ^^^ b) = crcShift^[k] a ^^^ crcShift^[k] b := by
  induction k generalizing a b with
  | zero => rfl
  | succ k ih => simp only [Function.iterate_succ_apply, crcShift_xor, ih]

theorem step8_xor (a b : Byte) : step8 (a ^^^ b) = step8 a ^^^ step8 b := iterate_crcShift_xor 8 a b

theorem step8_bijective : Function.Bijective step8 := (crcShift_injective.iterate 8).bijective_of_finite

/-- The table of R80 holds the values of `step8` in order. -/
theorem crcTable_eq_map_step8 : crcTable = (List.range 256).map fun n => step8 (BitVec.ofNat 8 n) := by decide +kernel

theorem crcTable_getElem? (x : Byte) : crcTable[x.toNat]? = some (step8 x) := by
  rw [crcTable_eq_map_step8, List.getElem?_map, List.getElem?_range x.isLt]
  simp

/-! ### The checksum of two bytes (R72, R81) -/

theorem crc8_be16 (h l : Byte) : crc8 (be16 h l) = step8 (step8 (crcInit ^^^ h) ^^^ l) := by
  rw [crc8, hi8_be16, lo8_be16]

theorem crc8_be16_bijective_lo (h : Byte) : Function.Bijective fun l : Byte => crc8 (be16 h l) := by
  simp only [crc8_be16]
  exact step8_bijective.comp (xor_left_bijective _)

theorem crc8_be16_bijective_hi (l : Byte) : Function.Bijective fun h : Byte => crc8 (be16 h l) := by
  simp only [crc8_be16]
  exact step8_bijective.comp ((xor_right_bijective l).comp (step8_bijective.comp (xor_left_bijective crcInit)))

/-- Values with the same high byte and the same checksum are the same. -/
theorem eq_of_hi8_eq_of_crc8_eq {v w : Code} (hhi : hi8 v = hi8 w) (hcrc : crc8 v = crc8 w) : v = w := by
  rw [← be16_hi8_lo8 v, ← be16_hi8_lo8 w, hhi] at hcrc ⊢
  rw [(crc8_be16_bijective_lo (hi8 w)).injective hcrc]

/-- A checksum has as many values as there are high bytes: each high byte has one low byte that leads to it. -/
theorem countP_crc8_eq (e : Byte) : ((List.range 65536).countP fun n => crc8 (BitVec.ofNat 16 n) == e) = 256 := by
  change Nat.count (fun n => crc8 (BitVec.ofNat 16 n) = e) 65536 = 256
  rw [Nat.count_eq_card_filter_range]
  calc _ = (Finset.univ : Finset Byte).card :=
        Finset.card_bij (fun n _ => hi8 (BitVec.ofNat 16 n)) (fun _ _ => Finset.mem_univ _) ?inj ?surj
    _ = 256 := by rw [Finset.card_univ, ← FinEnum.card_eq_fintypeCard, FinEnum.card_bitVec]; rfl
  case inj =>
    intro m hm n hn hhi
    obtain ⟨hmlt, hmcrc⟩ := Finset.mem_filter.mp hm
    obtain ⟨hnlt, hncrc⟩ := Finset.mem_filter.mp hn
    have hcode := congrArg BitVec.toNat (eq_of_hi8_eq_of_crc8_eq hhi (hmcrc.trans hncrc.symm))
    rwa [BitVec.toNat_ofNat, BitVec.toNat_ofNat, Nat.mod_eq_of_lt (Finset.mem_range.mp hmlt),
      Nat.mod_eq_of_lt (Finset.mem_range.mp hnlt)] at hcode
  case surj =>
    intro h _
    obtain ⟨l, hl⟩ := (crc8_be16_bijective_lo h).surjective e
    have hcode : BitVec.ofNat 16 (be16 h l).toNat = be16 h l := by rw [BitVec.ofNat_toNat, BitVec.setWidth_eq]
    refine ⟨(be16 h l).toNat, Finset.mem_filter.mpr ⟨Finset.mem_range.mpr (be16 h l).isLt, ?_⟩, ?_⟩
    · rw [hcode]
      exact hl
    · rw [hcode, hi8_be16]

/-! ### The linear part of the checksum (R82) -/

theorem hi8_xor (a b : Code) : hi8 (a ^^^ b) = hi8 a ^^^ hi8 b := BitVec.extractLsb'_xor

theorem lo8_xor (a b : Code) : lo8 (a ^^^ b) = lo8 a ^^^ lo8 b := BitVec.extractLsb'_xor

/-- `L` of R82: the checksum computed from an accumulator of 0. -/
def crcLinear (d : Code) : Byte := step8 (step8 (hi8 d) ^^^ lo8 d)

theorem crcLinear_xor (a b : Code) : crcLinear (a ^^^ b) = crcLinear a ^^^ crcLinear b := by
  rw [crcLinear, hi8_xor, lo8_xor, step8_xor (hi8 a), xor_xor_xor_comm, step8_xor]
  rfl

/-- Values that differ by `d` have checksums that differ by `L(d)`. -/
theorem crc8_xor (v d : Code) : crc8 (v ^^^ d) = crc8 v ^^^ crcLinear d := by
  rw [crc8, hi8_xor, lo8_xor, ← BitVec.xor_assoc crcInit, step8_xor (crcInit ^^^ hi8 v), xor_xor_xor_comm, step8_xor]
  rfl

/-- `crc8(v) = 0x81 ^ L(v)`, with 0x81 the checksum of 0. -/
theorem crc8_eq_xor_crcLinear (v : Code) : crc8 v = 0x81#8 ^^^ crcLinear v := by
  have hzero : crc8 0#16 = 0x81#8 := by decide +kernel
  rw [← hzero, ← crc8_xor, BitVec.zero_xor]

/-- The lowest `k + 1` bits are the lowest `k` and bit `k`. -/
theorem setWidth_succ_eq_xor {n : Nat} (v : BitVec n) (k : Nat) :
    (v.setWidth (k + 1)).setWidth n = (v.setWidth k).setWidth n ^^^ if v.getLsbD k then BitVec.twoPow n k else 0#n := by
  apply BitVec.eq_of_getLsbD_eq
  intro i hi
  have hbit : ((if v.getLsbD k then BitVec.twoPow n k else 0#n).getLsbD i) = (v.getLsbD k && decide (k = i)) := by
    cases v.getLsbD k <;> simp
    omega
  rw [BitVec.getLsbD_xor, hbit]
  simp only [BitVec.getLsbD_setWidth, hi, decide_true, Bool.true_and]
  rcases Nat.lt_trichotomy i k with h | rfl | h
  · simp [h, Nat.lt_succ_of_lt h, h.ne']
  · simp
  · simp [Nat.not_lt_of_lt h, h.ne, show ¬ i < k + 1 by omega]

/-- A function that is linear over XOR is the sum of its values on the single bits that are set. -/
theorem foldl_twoPow_eq_xor {n m : Nat} {f : BitVec n → BitVec m} (hf : ∀ x y, f (x ^^^ y) = f x ^^^ f y)
    (x₀ : BitVec m) (v : BitVec n) :
    (List.range n).foldl (fun x i => if v.getLsbD i then x ^^^ f (BitVec.twoPow n i) else x) x₀ = x₀ ^^^ f v := by
  have hlow : ∀ k, (List.range k).foldl (fun x i => if v.getLsbD i then x ^^^ f (BitVec.twoPow n i) else x) x₀
      = x₀ ^^^ f ((v.setWidth k).setWidth n) := by
    intro k
    induction k with
    | zero => simp [BitVec.of_length_zero, map_zero_of_xor hf]
    | succ k ih =>
      rw [List.range_succ, List.foldl_append, ih, setWidth_succ_eq_xor, hf]
      cases h : v.getLsbD k <;> simp [h, map_zero_of_xor hf, BitVec.xor_assoc]
  rw [hlow, BitVec.setWidth_eq, BitVec.setWidth_eq]

/-- The columns of R82 are the values of `L` on the single bits. -/
theorem crcColumns_getD : ∀ i < 16, crcColumns.getD i 0#8 = crcLinear (BitVec.twoPow 16 i) := by decide +kernel

theorem crcLinear_eq_foldl_columns (x₀ : Byte) (v : Code) :
    (List.range 16).foldl (fun x i => if v.getLsbD i then x ^^^ crcColumns.getD i 0#8 else x) x₀
      = x₀ ^^^ crcLinear v := by
  rw [← foldl_twoPow_eq_xor crcLinear_xor]
  exact List.foldl_ext _ _ _ fun x i hi => by rw [crcColumns_getD i (List.mem_range.mp hi)]

end Sys2Proof.Machine

open Sys2Proof Sys2Proof.Machine

/-- Settles O14: a look-up in the table is `step8`. -/
theorem tableFormComputesTheChecksum : Obligations.TableFormComputesTheChecksum := by
  refine ⟨crcTable_getElem?, fun v => ?_⟩
  rw [crcTable_getElem?, Option.bind_some, crcTable_getElem?]
  rfl

/-- Settles O15: `step8` is a bijection, and so is XOR with a fixed byte, before and after it. -/
theorem checksumStepIsABijection : Obligations.ChecksumStepIsABijection := by
  refine ⟨step8_bijective, crc8_be16_bijective_lo, crc8_be16_bijective_hi, countP_crc8_eq, ?corruption⟩
  case corruption =>
    rintro h l _ x rfl
    exact ⟨(crc8_be16_bijective_hi l).injective.ne, (crc8_be16_bijective_lo h).injective.ne, Ne.symm⟩

/-- Settles O16: differences of values give differences of checksums, and `L` is the sum of its columns. -/
theorem checksumIsAffine : Obligations.ChecksumIsAffine := by
  constructor
  · intro a b c
    rw [crc8_xor, crc8_xor, BitVec.xor_assoc, BitVec.xor_assoc, crc8_eq_xor_crcLinear b, crc8_eq_xor_crcLinear c,
      xor_xor_xor_comm, BitVec.xor_self, BitVec.zero_xor]
  · intro v
    rw [crcLinear_eq_foldl_columns, ← crc8_eq_xor_crcLinear]

end

section
/-! SUPPORT. The bit-serial checksum machine (40_checksum_validator.md R73): its state after every number of steps. -/

namespace Sys2Proof.Machine

theorem serialStep_shift (v : Code) (a : Byte) (p : ByteSel) {i : Nat} (h : i < 8) :
    serialStep v ⟨a, p, Fin.ofNat 9 i⟩ = ⟨crcShift a, p, Fin.ofNat 9 (i + 1)⟩ := by
  have hiter : Fin.ofNat 9 i < 8 := by simp [Fin.lt_def]; omega
  rw [serialStep, if_pos hiter, Validator.mk.injEq]
  exact ⟨rfl, rfl, by simp [Fin.ext_iff, Fin.val_add]⟩

/-- Up to eight shifts after a byte was taken in. -/
theorem iterate_serialStep_shift (v : Code) (a : Byte) (p : ByteSel) {k : Nat} (h : k ≤ 8) :
    (serialStep v)^[k] ⟨a, p, 0⟩ = ⟨crcShift^[k] a, p, Fin.ofNat 9 k⟩ := by
  induction k with
  | zero => rfl
  | succ k ih =>
    rw [Function.iterate_succ_apply', ih (by omega), serialStep_shift v _ p h, Function.iterate_succ_apply']

/-- The first nine states, with the high byte. -/
theorem iterate_serialStep_hi (v : Code) {k : Nat} (h : k ≤ 8) :
    (serialStep v)^[k] (serialStart v) = ⟨crcShift^[k] (crcInit ^^^ hi8 v), .hi, Fin.ofNat 9 k⟩ :=
  iterate_serialStep_shift v _ .hi h

/-- The states from the `next byte` step on, with the low byte. -/
theorem iterate_serialStep_lo (v : Code) {k : Nat} (h : k ≤ 8) :
    (serialStep v)^[9 + k] (serialStart v)
      = ⟨crcShift^[k] (step8 (crcInit ^^^ hi8 v) ^^^ lo8 v), .lo, Fin.ofNat 9 k⟩ := by
  have hnext : (serialStep v)^[9] (serialStart v) = ⟨step8 (crcInit ^^^ hi8 v) ^^^ lo8 v, .lo, 0⟩ := by
    rw [Function.iterate_succ_apply', iterate_serialStep_hi v le_rfl]
    rfl
  rw [Nat.add_comm, Function.iterate_add_apply, hnext, iterate_serialStep_shift v _ .lo h]

/-- Of the first seventeen steps every one but the ninth is a shift (the machine's counter is below 8). -/
theorem iter_lt_iff (v : Code) {k : Nat} (h : k < 17) :
    ((serialStep v)^[k] (serialStart v)).iter < 8 ↔ k ≠ 8 := by
  rcases Nat.lt_or_ge k 9 with hk | hk
  · rw [iterate_serialStep_hi v (by omega)]
    simp [Fin.lt_def, Nat.mod_eq_of_lt hk]
    omega
  · obtain ⟨j, rfl⟩ := Nat.exists_eq_add_of_le hk
    rw [iterate_serialStep_lo v (by omega)]
    simp [Fin.lt_def]
    omega

theorem serialFinished_eq_false_of_iter_lt {m : Validator} (h : m.iter < 8) : serialFinished m = false := by
  simp [serialFinished, h.ne]

end Sys2Proof.Machine

open Sys2Proof Sys2Proof.Machine

/-- Settles O13: the machine's states are known in closed form, eight shifts on each side of the `next byte` step. -/
theorem serialMachineComputesTheChecksum : Obligations.SerialMachineComputesTheChecksum := by
  intro v
  have hnext : (serialStep v)^[8] (serialStart v) = ⟨step8 (crcInit ^^^ hi8 v), .hi, 8⟩ :=
    iterate_serialStep_hi v (k := 8) le_rfl
  have hend : (serialStep v)^[17] (serialStart v) = ⟨crc8 v, .lo, 8⟩ := iterate_serialStep_lo v (k := 8) le_rfl
  refine ⟨fun k hk => ?_, ?_, fun k hk => ?_, by rw [hend]; rfl, hend⟩
  · by_cases h : k = 8
    · rw [h, hnext]
      rfl
    · exact serialFinished_eq_false_of_iter_lt ((iter_lt_iff v hk).mpr h)
  · rw [List.countP_congr (q := fun k => k ≠ 8) fun k hk => by simpa using iter_lt_iff v (List.mem_range.mp hk)]
    decide
  · by_cases h : k = 8
    · rw [h, hnext]
      exact .inr ⟨rfl, rfl⟩
    · exact .inl ((iter_lt_iff v hk).mpr h)

end

section
/-! SUPPORT. Which error patterns of a field the checksum detects (40_checksum_validator.md R82): the polynomial has an odd
number of set bits below its leading term, so `L` keeps the parity of the number of set bits; and no two single-bit errors
have the same effect. -/

namespace Sys2Proof.Machine

/-! ### The number of set bits, and its parity -/

/-- The set bits of a word, counted as `flippedBits` counts them. -/
def setBits {n : Nat} (x : BitVec n) : Nat := (List.range n).countP fun i => x.getLsbD i

theorem flippedBits_eq_setBits (e : BitVec 24) : flippedBits e = setBits e := rfl

theorem setBits_append {m n : Nat} (a : BitVec m) (b : BitVec n) : setBits (a ++ b) = setBits a + setBits b := by
  have hlo : (List.range n).countP (fun i => (a ++ b).getLsbD i) = setBits b :=
    List.countP_congr fun i hi => by simp [BitVec.getLsbD_append, List.mem_range.mp hi]
  have hhi : (List.range m).countP (fun i => (a ++ b).getLsbD (n + i)) = setBits a :=
    List.countP_congr fun i _ => by simp [BitVec.getLsbD_append]
  have hrange : List.range (m + n) = List.range n ++ (List.range m).map (n + ·) := by rw [Nat.add_comm, List.range_add]
  rw [setBits, hrange, List.countP_append, List.countP_map, hlo, Nat.add_comm]
  exact congrArg (· + setBits b) hhi

/-- What both predicates hold of is counted twice on the right and not at all on the left. -/
theorem countP_xor_modEq {α : Type} (p q : α → Bool) (l : List α) :
    l.countP (fun i => p i ^^ q i) ≡ l.countP p + l.countP q [MOD 2] := by
  induction l with
  | nil => rfl
  | cons i l ih =>
    simp only [List.countP_cons, Nat.ModEq] at ih ⊢
    cases p i <;> cases q i <;> simp <;> omega

theorem setBits_xor_modEq {n : Nat} (a b : BitVec n) : setBits (a ^^^ b) ≡ setBits a + setBits b [MOD 2] := by
  simpa only [setBits, BitVec.getLsbD_xor] using countP_xor_modEq a.getLsbD b.getLsbD (List.range n)

/-- An iteration that shifts a set bit out adds the three set bits of the polynomial. -/
theorem setBits_crcShift_modEq : ∀ a : Byte, setBits (crcShift a) ≡ setBits a [MOD 2] := by decide

theorem setBits_iterate_crcShift_modEq (k : Nat) (a : Byte) : setBits (crcShift^[k] a) ≡ setBits a [MOD 2] := by
  induction k generalizing a with
  | zero => rfl
  | succ k ih => exact (ih (crcShift a)).trans (setBits_crcShift_modEq a)

theorem setBits_step8_modEq (a : Byte) : setBits (step8 a) ≡ setBits a [MOD 2] := setBits_iterate_crcShift_modEq 8 a

theorem setBits_crcLinear_modEq (d : Code) : setBits (crcLinear d) ≡ setBits d [MOD 2] := by
  calc setBits (crcLinear d) ≡ setBits (step8 (hi8 d) ^^^ lo8 d) [MOD 2] := setBits_step8_modEq _
    _ ≡ setBits (step8 (hi8 d)) + setBits (lo8 d) [MOD 2] := setBits_xor_modEq _ _
    _ ≡ setBits (hi8 d) + setBits (lo8 d) [MOD 2] := (setBits_step8_modEq _).add_right _
    _ = setBits d := by rw [← setBits_append, ← be16, be16_hi8_lo8]

/-! ### What an error pattern does to a field -/

/-- The effect of an error pattern of a field: how far the checksum of the value and the checksum byte come apart. -/
def fieldSyndrome (e : BitVec 24) : Byte := crcLinear (e.extractLsb' 8 16) ^^^ e.extractLsb' 0 8

theorem fieldSyndrome_xor (d e : BitVec 24) : fieldSyndrome (d ^^^ e) = fieldSyndrome d ^^^ fieldSyndrome e := by
  rw [fieldSyndrome, BitVec.extractLsb'_xor, BitVec.extractLsb'_xor, crcLinear_xor, xor_xor_xor_comm]
  rfl

/-- A valid field stays valid exactly under the patterns without effect. -/
theorem crc8_xor_eq_iff (v : Code) (e : BitVec 24) :
    crc8 (v ^^^ e.extractLsb' 8 16) = crc8 v ^^^ e.extractLsb' 0 8 ↔ fieldSyndrome e = 0#8 := by
  rw [crc8_xor, BitVec.xor_right_inj, fieldSyndrome, BitVec.xor_eq_zero_iff]

theorem setBits_fieldSyndrome_modEq (e : BitVec 24) : setBits (fieldSyndrome e) ≡ setBits e [MOD 2] := by
  calc setBits (fieldSyndrome e)
      ≡ setBits (crcLinear (e.extractLsb' 8 16)) + setBits (e.extractLsb' 0 8) [MOD 2] := setBits_xor_modEq _ _
    _ ≡ setBits (e.extractLsb' 8 16) + setBits (e.extractLsb' 0 8) [MOD 2] := (setBits_crcLinear_modEq _).add_right _
    _ = setBits e := by rw [← setBits_append, append_extract (m := 16) (n := 8) e]

/-- An odd number of flipped bits has an effect with an odd number of set bits. -/
theorem fieldSyndrome_ne_zero_of_odd {e : BitVec 24} (h : setBits e % 2 = 1) : fieldSyndrome e ≠ 0#8 := by
  intro hzero
  have hparity : setBits (0#8) % 2 = setBits e % 2 := hzero ▸ setBits_fieldSyndrome_modEq e
  rw [h] at hparity
  exact absurd hparity (by decide)

/-- The 24 single-bit errors have different effects. -/
theorem nodup_fieldSyndrome_twoPow : ((List.range 24).map fun i => fieldSyndrome (BitVec.twoPow 24 i)).Nodup := by
  decide +kernel

/-- The effect of a pattern is the sum of those of its set bits. -/
theorem foldl_fieldSyndrome_filter (e : BitVec 24) :
    ((List.range 24).filter fun i => e.getLsbD i).foldl (fun x i => x ^^^ fieldSyndrome (BitVec.twoPow 24 i)) 0#8
      = fieldSyndrome e := by
  rw [List.foldl_filter, foldl_twoPow_eq_xor fieldSyndrome_xor, BitVec.zero_xor]

/-- Two flipped bits do not cancel out. -/
theorem fieldSyndrome_ne_zero_of_two {e : BitVec 24} (h : setBits e = 2) : fieldSyndrome e ≠ 0#8 := by
  intro hzero
  rw [setBits, List.countP_eq_length_filter, List.length_eq_two] at h
  obtain ⟨i, j, hij⟩ := h
  have hbits : [i, j].Sublist (List.range 24) := hij ▸ List.filter_sublist
  have heffect := foldl_fieldSyndrome_filter e
  have hdistinct := nodup_fieldSyndrome_twoPow.sublist (hbits.map _)
  rw [hij, hzero] at heffect
  simp only [List.foldl_cons, List.foldl_nil, BitVec.zero_xor, BitVec.xor_eq_zero_iff] at heffect
  simp [heffect] at hdistinct

end Sys2Proof.Machine

open Sys2Proof Sys2Proof.Machine

/-- Settles O17: one and three are odd numbers of bits, which parity detects, and two bits never cancel out. -/
theorem smallErrorPatternsAreDetected : Obligations.SmallErrorPatternsAreDetected := by
  constructor
  · rintro v _ e rfl hbits
    rw [flippedBits_eq_setBits] at hbits
    rw [ne_eq, crc8_xor_eq_iff]
    by_cases htwo : setBits e = 2
    · exact fieldSyndrome_ne_zero_of_two htwo
    · exact fieldSyndrome_ne_zero_of_odd (by omega)
  · rintro v _ rfl
    rw [crc8_xor, show crcLinear 0x0001#16 = 0x31#8 by decide +kernel]

end

section
/-! SUPPORT. The checksum as a remainder of polynomials over GF(2) (40_checksum_validator.md R83): an iteration of the
checksum is one step of the long division, on the eight coefficients that stand below the term it cancels. -/

namespace Sys2Proof.Machine

/-- The accumulator as the coefficients of degree `j` to `j + 7`. -/
def accAt (j : Nat) (a : Byte) : BitVec 24 := a.setWidth 24 <<< j

theorem getLsbD_accAt {j i : Nat} (h : i < 24) (a : Byte) :
    (accAt j a).getLsbD i = (!decide (i < j) && a.getLsbD (i - j)) := by
  simp [accAt, h]

/-- Nothing stands above the accumulator. -/
theorem getLsbD_accAt_above {j i : Nat} (h : j + 8 ≤ i) (a : Byte) : (accAt j a).getLsbD i = false := by
  simp [accAt, BitVec.getLsbD_of_ge a (i - j) (by omega)]

theorem setWidth_accAt_zero (a : Byte) : (accAt 0 a).setWidth 8 = a := by simp [accAt]

theorem accAt_xor (j : Nat) (a b : Byte) : accAt j (a ^^^ b) = accAt j a ^^^ accAt j b := by
  rw [accAt, BitVec.setWidth_xor, BitVec.shiftLeft_xor_distrib]
  rfl

/-- The polynomial with its leading term cancels the bit that an iteration shifts out. -/
theorem setWidth_shiftLeft_one : ∀ a : Byte,
    a.setWidth 24 <<< 1 = (crcShift a).setWidth 24 ^^^ if a.getLsbD 7 then 0x131#24 else 0#24 := by
  decide

theorem accAt_succ (j : Nat) (a : Byte) :
    accAt (j + 1) a = accAt j (crcShift a) ^^^ if a.getLsbD 7 then 0x131#24 <<< j else 0#24 := by
  rw [accAt, Nat.add_comm, BitVec.shiftLeft_add, setWidth_shiftLeft_one, BitVec.shiftLeft_xor_distrib, accAt]
  cases a.getLsbD 7 <;> simp

/-- One cancelled term is one iteration, whatever stands below the accumulator. -/
theorem cancelTerm_accAt {j : Nat} (hj : j < 16) (a : Byte) {low : BitVec 24} (hlow : low.getLsbD (j + 8) = false) :
    cancelTerm (accAt (j + 1) a ^^^ low) j = accAt j (crcShift a) ^^^ low := by
  have htop : (accAt (j + 1) a ^^^ low).getLsbD (j + 8) = a.getLsbD 7 := by
    rw [BitVec.getLsbD_xor, hlow, getLsbD_accAt (by omega), show j + 8 - (j + 1) = 7 by omega]
    simp
  rw [cancelTerm, htop, accAt_succ]
  cases a.getLsbD 7 with
  | false => simp
  | true =>
    simp only [if_true]
    calc accAt j (crcShift a) ^^^ 0x131#24 <<< j ^^^ low ^^^ 0x131#24 <<< j
        = accAt j (crcShift a) ^^^ low ^^^ (0x131#24 <<< j ^^^ 0x131#24 <<< j) := by ac_rfl
      _ = accAt j (crcShift a) ^^^ low := by rw [BitVec.xor_self, BitVec.xor_zero]

/-- Cancelling `k` terms from the top is `k` iterations. -/
theorem foldl_cancelTerm_accAt {j k : Nat} (hjk : j + k ≤ 16) (a : Byte) {low : BitVec 24}
    (hlow : ∀ i, j + 8 ≤ i → low.getLsbD i = false) :
    ((List.range k).reverse.map (j + ·)).foldl cancelTerm (accAt (j + k) a ^^^ low)
      = accAt j (crcShift^[k] a) ^^^ low := by
  induction k generalizing a with
  | zero => rfl
  | succ k ih =>
    rw [List.range_succ, List.reverse_append, List.map_append, List.foldl_append]
    have hfirst : cancelTerm (accAt (j + k + 1) a ^^^ low) (j + k) = accAt (j + k) (crcShift a) ^^^ low :=
      cancelTerm_accAt (by omega) a (hlow _ (by omega))
    simp only [List.reverse_singleton, List.map_singleton, List.foldl_cons, List.foldl_nil]
    rw [← Nat.add_assoc, hfirst, ih (by omega)]
    rfl

/-- A value times `x^8`, by its bytes. -/
theorem shift_eq_accAt (v : Code) : v.setWidth 24 <<< 8 = accAt 16 (hi8 v) ^^^ accAt 8 (lo8 v) := by
  apply BitVec.eq_of_getLsbD_eq
  intro i hi
  rw [BitVec.getLsbD_xor, getLsbD_accAt hi, BitVec.getLsbD_shiftLeft, BitVec.getLsbD_setWidth, hi8,
    BitVec.getLsbD_extractLsb']
  rcases Nat.lt_or_ge i 16 with hlow | hhigh
  · rw [getLsbD_accAt hi, lo8, BitVec.getLsbD_extractLsb']
    simp [hlow, hi, show i - 8 < 8 by omega, show i - 8 < 24 by omega]
  · rw [getLsbD_accAt_above hhigh, show 8 + (i - 16) = i - 8 by omega]
    simp [hi, show ¬ i < 8 by omega, show ¬ i < 16 by omega, show i - 8 < 24 by omega, show i - 16 < 8 by omega]

/-- The remainder of a value times `x^8`: eight terms for the high byte, whose remainder meets the low byte, and eight more. -/
theorem polyRemainder_eq_crcLinear (v : Code) : polyRemainder (v.setWidth 24 <<< 8) = crcLinear v := by
  have hterms : [15, 14, 13, 12, 11, 10, 9, 8, 7, 6, 5, 4, 3, 2, 1, 0]
      = (List.range 8).reverse.map (8 + ·) ++ (List.range 8).reverse.map (0 + ·) := by decide
  have hhi := foldl_cancelTerm_accAt (j := 8) (k := 8) le_rfl (hi8 v) fun _ hi => getLsbD_accAt_above hi (lo8 v)
  have hlo := foldl_cancelTerm_accAt (j := 0) (k := 8) (by decide) (step8 (hi8 v) ^^^ lo8 v) (low := 0#24) (by simp)
  rw [BitVec.xor_zero, BitVec.xor_zero] at hlo
  rw [polyRemainder, shift_eq_accAt, hterms, List.foldl_append, hhi, ← step8, ← accAt_xor, hlo, setWidth_accAt_zero]
  rfl

end Sys2Proof.Machine

open Sys2Proof Sys2Proof.Machine

/-- Settles O18: the initial value 0xFF is a difference in the high byte. -/
theorem checksumIsAPolynomialRemainder : Obligations.ChecksumIsAPolynomialRemainder := by
  intro v
  rw [polyRemainder_eq_crcLinear, crcLinear, hi8_xor, lo8_xor, show hi8 0xFF00#16 = crcInit by decide,
    show lo8 0xFF00#16 = 0#8 by decide, BitVec.xor_comm (hi8 v), BitVec.xor_zero, ← crc8]

end

section
/-! SUPPORT. The operations CRC8 and VALIDATE (40_checksum_validator.md R74, R75, R78). -/

namespace Sys2Proof.Machine

theorem exec_crc8 (c : Code) (s : State) :
    exec (.crc8 c) s = .next ((s.withValidator (serialEnd c)).respond 0x00#8 ((crc8 c).setWidth 64)) := rfl

theorem exec_validate_match (v : Code) (s : State) :
    exec (.validate v (crc8 v)) s = .next ((s.withValidator (serialEnd v)).respond 0x00#8 1#64) := by
  rw [exec, execValidate, if_pos rfl]
  rfl

theorem exec_validate_mismatch {v : Code} {x : Byte} (h : x ≠ crc8 v) (s : State) :
    exec (.validate v x) s = .next ((s.withValidator (serialEnd v)).respond 0x00#8 0#64) := by
  rw [exec, execValidate, if_neg h.symm]
  rfl

end Sys2Proof.Machine

open Sys2Proof Sys2Proof.Machine

/-- Settles O10: the operation responds with the checksum, and the decoder reads it as format R. -/
theorem crc8RespondsWithTheChecksum : Obligations.Crc8RespondsWithTheChecksum :=
  ⟨fun c s => ⟨serialEnd c, exec_crc8 c s⟩, formatR_crc8, by decide +kernel⟩

/-- Settles O11: the match and the mismatch each have their own answer. -/
theorem validateRespondsWithTheComparison : Obligations.ValidateRespondsWithTheComparison :=
  ⟨fun v s => ⟨serialEnd v, exec_validate_match v s⟩, fun v _ s h => ⟨serialEnd v, exec_validate_mismatch h s⟩,
    formatV_validate, by decide +kernel⟩

/-- Settles O12: the byte is the checksum, and every other byte is a mismatch. -/
theorem exactlyOneChecksumValidates : Obligations.ExactlyOneChecksumValidates := by
  intro v s
  refine ⟨crc8 v, fun x => ?_⟩
  by_cases h : x = crc8 v
  · rw [h]
    exact ⟨_, exec_validate_match v s, by rw [State.respond_pending, dataField_append]; simp⟩
  · exact ⟨_, exec_validate_mismatch h s, by rw [State.respond_pending, dataField_append]; simp [h]⟩

end

section
/-! SUPPORT. The operations of the command encoder (41_command_encoder.md R91 to R93). -/

namespace Sys2Proof.Machine

theorem exec_encPup (s : State) : exec .encPup s = .next (s.respond 0x00#8 0x3517#64) := rfl

theorem exec_encPdn (s : State) : exec .encPdn s = .next (s.respond 0x00#8 0xB098#64) := rfl

theorem exec_encMeas (s : State) : exec .encMeas s = .next (s.respond 0x00#8 0x7CA2#64) := rfl

end Sys2Proof.Machine

open Sys2Proof Sys2Proof.Machine

/-- Settles O19: each operation responds with its command word, the decoder reads it as format N, and the wire bytes are the
two halves of the word, the high one first. -/
theorem commandEncoderRespondsWithTheCommandWords : Obligations.CommandEncoderRespondsWithTheCommandWords :=
  ⟨exec_encPup, exec_encPdn, exec_encMeas, formatN_encPup, formatN_encPdn, formatN_encMeas, by decide⟩

end

section
/-! SUPPORT. The operation DECODE and the frame it reads (42_measurement_decoder.md R102 to R107): two fields of three bytes, a
value and its checksum each. -/

namespace Sys2Proof.Machine

section
variable {b0 b1 b2 b3 b4 b5 : Byte} (s : State)

theorem exec_decode_pass (ht : crc8 (be16 b0 b1) = b2) (hh : crc8 (be16 b3 b4) = b5) :
    exec (.decode b0 b1 b2 b3 b4 b5) s = .next ((s.withValidator (serialEnd (be16 b3 b4))).respond 0x00#8
      (0#32 ++ (be16 b0 b1 ++ be16 b3 b4))) := by
  rw [exec, execDecode_eq, answerOf_decode_pass _ ht hh, statusField_append, dataField_append, statusOk]

/-- A DECODE of which a field fails responds with one bit per failed field, and neither value (R105, R176). -/
theorem exec_decode_fail (hbad : ¬(crc8 (be16 b0 b1) = b2 ∧ crc8 (be16 b3 b4) = b5)) :
    exec (.decode b0 b1 b2 b3 b4 b5) s = .next ((s.withValidator (serialEnd (be16 b3 b4))).respond
      (Error.checksum (crc8 (be16 b0 b1) != b2) (crc8 (be16 b3 b4) != b5)).status 0#64) := by
  rw [exec, execDecode_eq, answerOf_decode_fail _ hbad, statusField_append, dataField_append]

theorem exec_decode_tBad (ht : crc8 (be16 b0 b1) ≠ b2) (hh : crc8 (be16 b3 b4) = b5) :
    exec (.decode b0 b1 b2 b3 b4 b5) s
      = .next ((s.withValidator (serialEnd (be16 b3 b4))).respond 0x06#8 0#64) := by
  rw [exec_decode_fail s fun h => ht h.1, bne_iff_ne.mpr ht, bne_eq_false_iff_eq.mpr hh]
  rfl

theorem exec_decode_hBad (ht : crc8 (be16 b0 b1) = b2) (hh : crc8 (be16 b3 b4) ≠ b5) :
    exec (.decode b0 b1 b2 b3 b4 b5) s
      = .next ((s.withValidator (serialEnd (be16 b3 b4))).respond 0x0A#8 0#64) := by
  rw [exec_decode_fail s fun h => hh h.2, bne_eq_false_iff_eq.mpr ht, bne_iff_ne.mpr hh]
  rfl

theorem exec_decode_bothBad (ht : crc8 (be16 b0 b1) ≠ b2) (hh : crc8 (be16 b3 b4) ≠ b5) :
    exec (.decode b0 b1 b2 b3 b4 b5) s
      = .next ((s.withValidator (serialEnd (be16 b3 b4))).respond 0x0E#8 0#64) := by
  rw [exec_decode_fail s fun h => ht h.1, bne_iff_ne.mpr ht, bne_iff_ne.mpr hh]
  rfl

end

/-! ### The fields of a frame (R31, R81, R107) -/

/-- A value on the wire: its two bytes, the high one first, and its checksum (R31, R34). -/
def wireField (v : Code) : List Byte := [hi8 v, lo8 v, crc8 v]

theorem crc8_be16_hi8_lo8 (v : Code) : crc8 (be16 (hi8 v) (lo8 v)) = crc8 v := congrArg crc8 (be16_hi8_lo8 v)

theorem crc8_be16_ne_of_hi8_ne {v : Code} {x : Byte} (h : hi8 v ≠ x) : crc8 (be16 x (lo8 v)) ≠ crc8 v :=
  ne_of_ne_of_eq ((crc8_be16_bijective_hi (lo8 v)).injective.ne h.symm) (crc8_be16_hi8_lo8 v)

theorem crc8_be16_ne_of_lo8_ne {v : Code} {x : Byte} (h : lo8 v ≠ x) : crc8 (be16 (hi8 v) x) ≠ crc8 v :=
  ne_of_ne_of_eq ((crc8_be16_bijective_lo (hi8 v)).injective.ne h.symm) (crc8_be16_hi8_lo8 v)

/-- A field of which one byte was replaced by a different one fails its checksum (R81 (c)). -/
theorem wireField_set_fails (v : Code) {j : Nat} (hj : j < 3) {x : Byte} (hx : (wireField v)[j]? ≠ some x) :
    ∃ a b c : Byte, (wireField v).set j x = [a, b, c] ∧ crc8 (be16 a b) ≠ c := by
  match j with
  | 0 => exact ⟨x, lo8 v, crc8 v, rfl, crc8_be16_ne_of_hi8_ne fun h => hx (congrArg some h)⟩
  | 1 => exact ⟨hi8 v, x, crc8 v, rfl, crc8_be16_ne_of_lo8_ne fun h => hx (congrArg some h)⟩
  | 2 => exact ⟨hi8 v, lo8 v, x, rfl, fun h => hx (congrArg some ((crc8_be16_hi8_lo8 v).symm.trans h))⟩

end Sys2Proof.Machine

open Sys2Proof Sys2Proof.Machine

/-- Settles O20: one answer for each of the four cases of the two checks, and the decoder reads any `ARG` as format F. -/
theorem decodeRespondsWithBothValuesOrNeither : Obligations.DecodeRespondsWithBothValuesOrNeither :=
  ⟨fun _ _ _ b3 b4 _ s => ⟨serialEnd (be16 b3 b4),
    exec_decode_pass s, exec_decode_tBad s, exec_decode_hBad s, exec_decode_bothBad s⟩,
    formatF_decode, by decide +kernel⟩

/-- Settles O21: both fields of the built frame pass; a replaced byte fails its own field and leaves the other alone. -/
theorem frameRoundTripAndSingleByteCorruption : Obligations.FrameRoundTripAndSingleByteCorruption := by
  refine ⟨fun t h s => ⟨serialEnd h, ?roundTrip⟩, fun t h k x s => ?corruption⟩
  case roundTrip =>
    simpa only [be16_hi8_lo8] using exec_decode_pass s (crc8_be16_hi8_lo8 t) (crc8_be16_hi8_lo8 h)
  case corruption =>
    change (wireField t ++ wireField h)[k.val]? ≠ some x → ∃ i u,
      frameRequest ((wireField t ++ wireField h).set k.val x) = some i ∧ _
    intro hx
    rcases Nat.lt_or_ge k.val 3 with hk | hk
    · rw [List.getElem?_append_left hk] at hx
      obtain ⟨a, b, c, hset, hbad⟩ := wireField_set_fails t hk hx
      rw [List.set_append_left _ _ hk, hset, if_pos hk]
      exact ⟨_, _, rfl, exec_decode_tBad s hbad (crc8_be16_hi8_lo8 h), rfl⟩
    · have hj : k.val - (wireField t).length < 3 := Nat.sub_lt_left_of_lt_add hk k.isLt
      rw [List.getElem?_append_right hk] at hx
      obtain ⟨a, b, c, hset, hbad⟩ := wireField_set_fails h hj hx
      rw [List.set_append_right _ _ hk, hset, if_neg hk.not_gt]
      exact ⟨_, _, rfl, exec_decode_hBad s (crc8_be16_hi8_lo8 t) hbad, rfl⟩

end

section
/-! SUPPORT. Rounding (43_unit_converter.md R117): the one rounding of `fround` takes the nearest multiple of the last place,
and no number of the format is nearer. -/

namespace Sys2Proof.Machine

/-! ### The two formats -/

theorem fpPrecision_eq (f : FpFormat) : fpPrecision f = fpFracBits f + 1 := by cases f <;> rfl

theorem le_fpPrecision (f : FpFormat) : 24 ≤ fpPrecision f := by cases f <;> decide

theorem fpMinExp_le (f : FpFormat) : fpMinExp f ≤ -149 := by cases f <;> decide

/-- A significand that rounding has carried up to `2 ^ fpPrecision` is half as large with the next exponent. -/
theorem representable_of_natAbs_le {f : FpFormat} {m e : Int} (hm : m.natAbs ≤ 2 ^ fpPrecision f) (he : fpMinExp f ≤ e) :
    representable f (m * (2 : ℚ) ^ e) := by
  rcases Nat.lt_or_eq_of_le hm with hlt | heq
  · exact ⟨m, e, hlt, he, rfl⟩
  · rw [fpPrecision_eq, pow_succ] at heq
    obtain ⟨k, rfl⟩ : 2 ∣ m := Int.natCast_dvd.mpr ⟨2 ^ fpFracBits f, heq.trans (mul_comm _ _)⟩
    have hk : k.natAbs = 2 ^ fpFracBits f := by omega
    refine ⟨k, e + 1, ?_, by omega, ?_⟩
    · rw [hk, fpPrecision_eq]
      exact Nat.pow_lt_pow_succ Nat.one_lt_two
    · rw [zpow_add_one₀ two_ne_zero]
      push_cast
      ring

theorem representable_intCast {f : FpFormat} {n : Int} (h : n.natAbs < 2 ^ 24) : representable f n :=
  ⟨n, 0, h.trans_le (Nat.pow_le_pow_right two_pos (le_fpPrecision f)), (fpMinExp_le f).trans (by decide), by simp⟩

/-! ### Scaled quotients and their leading bit -/

theorem scaleQuot_snd_pos (num : Nat) {den : Nat} (h : 0 < den) (k : Int) : 0 < (scaleQuot num den k).2 := by
  cases k with
  | ofNat k => exact h
  | negSucc k => exact Nat.mul_pos h (Nat.two_pow_pos _)

theorem scaleQuot_quotient (num den : Nat) (k : Int) :
    ((scaleQuot num den k).1 : ℚ) / (scaleQuot num den k).2 = num / den * 2 ^ k := by
  cases k with
  | ofNat k =>
    simp only [scaleQuot, Int.ofNat_eq_natCast, zpow_natCast]
    push_cast
    ring
  | negSucc k =>
    simp only [scaleQuot, zpow_negSucc]
    push_cast
    rw [div_mul_eq_div_div, div_eq_mul_inv _ ((2 : ℚ) ^ (k + 1))]

theorem log_two_eq_iff {q : ℚ} (hq : 0 < q) {l : Int} : Int.log 2 q = l ↔ (2 : ℚ) ^ l ≤ q ∧ q < 2 ^ (l + 1) := by
  have hle := Int.zpow_le_iff_le_log (b := 2) one_lt_two (x := l) hq
  have hlt := Int.lt_zpow_iff_log_lt (b := 2) one_lt_two (x := l + 1) hq
  push_cast at hle hlt
  rw [hle, hlt]
  omega

theorem log_two_mul_zpow {q : ℚ} (hq : 0 < q) (e : Int) : Int.log 2 (q * 2 ^ e) = Int.log 2 q + e := by
  obtain ⟨hle, hlt⟩ := (log_two_eq_iff hq).mp rfl
  have hscale : (0 : ℚ) < 2 ^ e := by positivity
  rw [log_two_eq_iff (by positivity), add_right_comm, zpow_add₀ two_ne_zero, zpow_add₀ two_ne_zero]
  exact ⟨mul_le_mul_of_nonneg_right hle hscale.le, mul_lt_mul_of_pos_right hlt hscale⟩

theorem log_two_natCast (n : Nat) : Int.log 2 (n : ℚ) = n.log2 := by rw [Int.log_natCast, Nat.log2_eq_log_two]

/-- The leading bits of two numbers fix that of their quotient but for one place, which the comparison decides. -/
theorem quotLog2_eq_log {num den : Nat} (hnum : 0 < num) (hden : 0 < den) :
    quotLog2 num den = Int.log 2 ((num : ℚ) / den) := by
  have hn : (0 : ℚ) < num := by exact_mod_cast hnum
  have hd : (0 : ℚ) < den := by exact_mod_cast hden
  obtain ⟨hnle, hnlt⟩ := (log_two_eq_iff hn).mp (log_two_natCast num)
  obtain ⟨hdle, hdlt⟩ := (log_two_eq_iff hd).mp (log_two_natCast den)
  set l : Int := (num.log2 : Int) - den.log2 with hl
  have hupper : (num : ℚ) / den < 2 ^ (l + 1) := by
    rw [div_lt_iff₀ hd]
    calc (num : ℚ) < 2 ^ ((num.log2 : Int) + 1) := hnlt
      _ = 2 ^ (l + 1) * 2 ^ (den.log2 : Int) := by rw [← zpow_add₀ two_ne_zero]; congr 1; omega
      _ ≤ 2 ^ (l + 1) * den := mul_le_mul_of_nonneg_left hdle (by positivity)
  have hlower : (2 : ℚ) ^ (l - 1) ≤ num / den := by
    rw [le_div_iff₀ hd]
    calc (2 : ℚ) ^ (l - 1) * den ≤ 2 ^ (l - 1) * 2 ^ ((den.log2 : Int) + 1) :=
          mul_le_mul_of_nonneg_left hdlt.le (by positivity)
      _ = 2 ^ (num.log2 : Int) := by rw [← zpow_add₀ two_ne_zero]; congr 1; omega
      _ ≤ num := hnle
  have hcompare : (scaleQuot num den (-l)).2 ≤ (scaleQuot num den (-l)).1 ↔ (2 : ℚ) ^ l ≤ num / den := by
    have hpos : (0 : ℚ) < (scaleQuot num den (-l)).2 := by exact_mod_cast scaleQuot_snd_pos num hden (-l)
    rw [← Nat.cast_le (α := ℚ), ← one_le_div₀ hpos, scaleQuot_quotient, zpow_neg, ← div_eq_mul_inv,
      one_le_div₀ (by positivity)]
  have hpos : (0 : ℚ) < num / den := by positivity
  simp only [quotLog2, ← hl, hcompare]
  symm
  split
  next h => exact (log_two_eq_iff hpos).mpr ⟨h, hupper⟩
  next h => exact (log_two_eq_iff hpos).mpr ⟨hlower, by simpa using h⟩

/-! ### The nearest integer -/

/-- `n` is the integer nearest to `r`, the even one of two equally near. -/
def NearestInt (r : ℚ) (n : Int) : Prop := |n - r| ≤ 1 / 2 ∧ (|n - r| = 1 / 2 → 2 ∣ n)

theorem NearestInt.neg {r : ℚ} {n : Int} (h : NearestInt r n) : NearestInt (-r) (-n) := by
  obtain ⟨hnear, htie⟩ := h
  have habs : |((-n : Int) : ℚ) - -r| = |(n : ℚ) - r| := by
    rw [← abs_neg]
    congr 1
    push_cast
    ring
  rw [NearestInt, habs, Int.dvd_neg]
  exact ⟨hnear, htie⟩

/-- Another integer is half a unit away or more. -/
theorem NearestInt.half_le {r : ℚ} {n k : Int} (h : NearestInt r n) (hk : k ≠ n) : 1 / 2 ≤ |(k : ℚ) - r| := by
  have hdist : (1 : ℚ) ≤ |(k : ℚ) - n| := by exact_mod_cast Int.one_le_abs (sub_ne_zero.mpr hk)
  have htriangle := abs_sub_le (k : ℚ) r n
  rw [abs_sub_comm r] at htriangle
  linarith [h.1]

theorem NearestInt.abs_sub_le {r : ℚ} {n : Int} (h : NearestInt r n) (k : Int) : |(n : ℚ) - r| ≤ |(k : ℚ) - r| := by
  rcases eq_or_ne k n with rfl | hk
  · exact le_rfl
  · exact h.1.trans (h.half_le hk)

theorem NearestInt.even_of_tie {r : ℚ} {n k : Int} (h : NearestInt r n) (hk : k ≠ n)
    (htie : |(k : ℚ) - r| = |(n : ℚ) - r|) : 2 ∣ n :=
  h.2 (le_antisymm h.1 (htie ▸ h.half_le hk))

theorem nearestInt_roundHalfEven (num : Nat) {den : Nat} (hden : 0 < den) :
    NearestInt ((num : ℚ) / den) (roundHalfEven num den) := by
  have hd : (0 : ℚ) < den := by exact_mod_cast hden
  set q := num / den
  set r := num % den
  have hr : r < den := Nat.mod_lt _ hden
  have hquot : (num : ℚ) / den = q + r / den := by
    rw [div_eq_iff hd.ne', add_mul, div_mul_cancel₀ _ hd.ne']
    exact_mod_cast (Nat.div_add_mod' num den).symm
  have hround : roundHalfEven num den = if 2 * r < den then q else if den < 2 * r then q + 1 else q + q % 2 := rfl
  have hdown : |((q : Int) : ℚ) - (q + r / den)| = r / den := by
    rw [Int.cast_natCast, sub_add_cancel_left, abs_neg, abs_of_nonneg (by positivity)]
  have hup : |((q + 1 : Nat) : Int) - (q + r / den : ℚ)| = 1 - r / den := by
    have : (r : ℚ) / den ≤ 1 := (div_le_one hd).mpr (by exact_mod_cast hr.le)
    rw [← abs_of_nonneg (sub_nonneg.mpr this)]
    congr 1
    push_cast
    ring
  rw [hquot, hround]
  split_ifs with hlow hhigh
  · have : (r : ℚ) / den < 1 / 2 := by
      rw [div_lt_div_iff₀ hd two_pos]
      exact_mod_cast (by omega : r * 2 < 1 * den)
    rw [NearestInt, hdown]
    exact ⟨this.le, fun h => absurd h this.ne⟩
  · have : 1 / 2 < (r : ℚ) / den := by
      rw [div_lt_div_iff₀ two_pos hd]
      exact_mod_cast (by omega : 1 * den < r * 2)
    rw [NearestInt, hup]
    exact ⟨by linarith, fun h => absurd h (by linarith)⟩
  · have hhalf : (r : ℚ) / den = 1 / 2 := by
      rw [div_eq_div_iff hd.ne' two_ne_zero]
      exact_mod_cast (by omega : r * 2 = 1 * den)
    refine ⟨le_of_eq ?_, fun _ => by omega⟩
    rcases Nat.mod_two_eq_zero_or_one q with h | h
    · rw [h, Nat.add_zero, hdown, hhalf]
    · rw [h, hup, hhalf]
      norm_num

/-! ### The rounding -/

/-- The exponent of the last place in which the format can hold a value like `q`. -/
def lastPlace (f : FpFormat) (q : ℚ) : Int := max (Int.log 2 |q| - fpFracBits f) (fpMinExp f)

/-- `fround` takes the nearest multiple of the last place. -/
theorem fround_spec (f : FpFormat) {num : Int} (hnum : num ≠ 0) {den : Nat} (hden : 0 < den) (e : Int) :
    ∃ n : Int, fround f num den e = ⟨n, lastPlace f (num / den * 2 ^ e)⟩ ∧
      NearestInt (num / den * 2 ^ e / 2 ^ lastPlace f (num / den * 2 ^ e)) n := by
  have hmag : 0 < num.natAbs := Int.natAbs_pos.mpr hnum
  have hquot : (0 : ℚ) < num.natAbs / den := by positivity
  have habs : |(num : ℚ) / den * 2 ^ e| = num.natAbs / den * 2 ^ e := by
    rw [abs_mul, abs_div, Nat.abs_cast, abs_of_pos (by positivity : (0 : ℚ) < 2 ^ e), Nat.cast_natAbs, Int.cast_abs]
  have hplace : max (quotLog2 num.natAbs den + e - fpFracBits f) (fpMinExp f) = lastPlace f (num / den * 2 ^ e) := by
    rw [lastPlace, habs, log_two_mul_zpow hquot, quotLog2_eq_log hmag hden]
  set u := lastPlace f (num / den * 2 ^ e)
  set n := roundHalfEven (scaleQuot num.natAbs den (e - u)).1 (scaleQuot num.natAbs den (e - u)).2
  have hfround : fround f num den e = ⟨if num < 0 then -(n : Int) else n, u⟩ := by
    simp only [fround, if_neg hnum, hplace]
    rfl
  have hnear : NearestInt (num.natAbs / den * 2 ^ e / 2 ^ u) n := by
    rw [mul_div_assoc, ← zpow_sub₀ two_ne_zero, ← scaleQuot_quotient]
    exact nearestInt_roundHalfEven _ (scaleQuot_snd_pos _ hden _)
  refine ⟨_, hfround, ?_⟩
  rw [Nat.cast_natAbs, Int.cast_abs] at hnear
  split
  next hneg =>
    rw [abs_of_neg (by exact_mod_cast hneg)] at hnear
    simpa [neg_div] using hnear.neg
  next hpos =>
    rwa [abs_of_nonneg (by exact_mod_cast not_lt.mp hpos)] at hnear

/-- Above the subnormal numbers the last place is `fpFracBits` places below the leading bit. -/
theorem binade_lastPlace_le_abs {f : FpFormat} {q : ℚ} (hq : q ≠ 0) (h : lastPlace f q ≠ fpMinExp f) :
    (2 : ℚ) ^ fpFracBits f * 2 ^ lastPlace f q ≤ |q| := by
  have hlog : (fpFracBits f : Int) + lastPlace f q = Int.log 2 |q| := by
    simp only [lastPlace] at h ⊢
    omega
  rw [← zpow_natCast, ← zpow_add₀ two_ne_zero, hlog]
  exact ((log_two_eq_iff (abs_pos.mpr hq)).mp rfl).1

theorem abs_lt_lastPlace {f : FpFormat} {q : ℚ} (hq : q ≠ 0) : |q| < 2 ^ fpPrecision f * 2 ^ lastPlace f q := by
  rw [← zpow_natCast, ← zpow_add₀ two_ne_zero]
  refine ((log_two_eq_iff (abs_pos.mpr hq)).mp rfl).2.trans_le (zpow_le_zpow_right₀ one_le_two ?_)
  have := fpPrecision_eq f
  simp only [lastPlace]
  omega

/-- A number of the format is a multiple of the last place of `q`, or it is below the binade of `q`. -/
theorem representable.multiple_or_lt {f : FpFormat} {y q : ℚ} (hy : representable f y) (hq : q ≠ 0) :
    (∃ k : Int, y = k * 2 ^ lastPlace f q) ∨
      |y| < 2 ^ fpFracBits f * 2 ^ lastPlace f q ∧ 2 ^ fpFracBits f * 2 ^ lastPlace f q ≤ |q| := by
  obtain ⟨m, j, hm, hj, rfl⟩ := hy
  rcases le_or_gt (lastPlace f q) j with hle | hlt
  · refine .inl ⟨m * 2 ^ (j - lastPlace f q).toNat, ?_⟩
    push_cast
    rw [mul_assoc, ← zpow_natCast, ← zpow_add₀ two_ne_zero]
    congr 2
    omega
  · refine .inr ⟨?_, binade_lastPlace_le_abs hq (hj.trans_lt hlt).ne'⟩
    have hmag : |(m : ℚ)| < 2 ^ fpPrecision f := by
      rw [← Int.cast_abs, ← Nat.cast_natAbs]
      exact_mod_cast hm
    calc |m * (2 : ℚ) ^ j| = |(m : ℚ)| * 2 ^ j := by rw [abs_mul, abs_of_pos (by positivity : (0 : ℚ) < 2 ^ j)]
      _ < 2 ^ fpPrecision f * 2 ^ j := mul_lt_mul_of_pos_right hmag (by positivity)
      _ = 2 ^ fpFracBits f * 2 ^ (j + 1) := by rw [fpPrecision_eq, pow_succ, zpow_add_one₀ two_ne_zero]; ring
      _ ≤ 2 ^ fpFracBits f * 2 ^ lastPlace f q :=
        mul_le_mul_of_nonneg_left (zpow_le_zpow_right₀ one_le_two hlt) (by positivity)

/-- The edge of the binade of `q`, a multiple of the last place, is nearer to `q` than what is below the binade. -/
theorem exists_multiple_nearer {q y place : ℚ} {bits : Nat} (hy : |y| < 2 ^ bits * place) (hq : 2 ^ bits * place ≤ |q|) :
    ∃ k : Int, |k * place - q| < |y - q| := by
  have htriangle : |q| - |y| ≤ |y - q| := abs_sub_comm y q ▸ abs_sub_abs_le_abs_sub q y
  rcases abs_cases q with ⟨habs, _⟩ | ⟨habs, _⟩
  · refine ⟨2 ^ bits, ?_⟩
    push_cast
    rw [abs_of_nonpos (by linarith)]
    linarith
  · refine ⟨-2 ^ bits, ?_⟩
    push_cast
    rw [abs_of_nonneg (by linarith)]
    linarith

/-- Rounding a magnitude of at most a power of two does not go beyond that power. -/
theorem natAbs_le_two_pow_of_near {r : ℚ} {n : Int} (h : |n - r| ≤ 1 / 2) {p : Nat} (hr : |r| ≤ 2 ^ p) :
    n.natAbs ≤ 2 ^ p := by
  have hmag : (n.natAbs : ℚ) < 2 ^ p + 1 := by
    have htriangle := abs_sub_abs_le_abs_sub (n : ℚ) r
    rw [Nat.cast_natAbs, Int.cast_abs]
    linarith
  exact Nat.lt_succ_iff.mp (by exact_mod_cast hmag)

/-- The nearest multiple of the last place is the nearest number of the format. -/
theorem nearestEven_of_nearestInt {f : FpFormat} {q : ℚ} (hq : q ≠ 0) {n : Int}
    (h : NearestInt (q / 2 ^ lastPlace f q) n) : NearestEven f q ⟨n, lastPlace f q⟩ := by
  set u := lastPlace f q with hu
  have hpos : (0 : ℚ) < 2 ^ u := by positivity
  have hdist : ∀ k : Int, |(k : ℚ) * 2 ^ u - q| = |(k : ℚ) - q / 2 ^ u| * 2 ^ u := fun k => by
    rw [← abs_of_pos hpos, ← abs_mul, abs_of_pos hpos, sub_mul, div_mul_cancel₀ _ hpos.ne']
  have hmultiple : ∀ k : Int, |(n : ℚ) * 2 ^ u - q| ≤ |(k : ℚ) * 2 ^ u - q| := fun k => by
    rw [hdist, hdist]
    exact mul_le_mul_of_nonneg_right (h.abs_sub_le k) hpos.le
  have hbelow : ∀ y : ℚ, |y| < 2 ^ fpFracBits f * 2 ^ u ∧ 2 ^ fpFracBits f * 2 ^ u ≤ |q| →
      |(n : ℚ) * 2 ^ u - q| < |y - q| := fun y ⟨hlt, hbinade⟩ => by
    obtain ⟨k, hk⟩ := exists_multiple_nearer hlt hbinade
    exact (hmultiple k).trans_lt hk
  have hscaled : |q / 2 ^ u| ≤ 2 ^ fpPrecision f := by
    rw [abs_div, abs_of_pos hpos, div_le_iff₀ hpos]
    exact (abs_lt_lastPlace hq).le
  have hfits := natAbs_le_two_pow_of_near h.1 hscaled
  refine ⟨representable_of_natAbs_le hfits (le_max_right _ _), fun y hy => ?_, fun y hy hne htie => ?_⟩
  · rcases hy.multiple_or_lt hq with ⟨k, rfl⟩ | hlow
    · exact hmultiple k
    · exact (hbelow y hlow).le
  · rcases hy.multiple_or_lt hq with ⟨k, rfl⟩ | hlow
    · refine h.even_of_tie (k := k) (fun hk => hne (hk ▸ rfl)) ?_
      rw [← hu, Fp.value, hdist, hdist] at htie
      exact mul_right_cancel₀ hpos.ne' htie
    · exact absurd htie (hbelow y hlow).ne'

/-- `fround` rounds `num / den * 2 ^ e` once. -/
theorem fround_nearestEven (f : FpFormat) (num : Int) {den : Nat} (hden : 0 < den) (e : Int) :
    NearestEven f (num / den * 2 ^ e) (fround f num den e) := by
  by_cases hnum : num = 0
  · have hvalue : (⟨0, 0⟩ : Fp).value = 0 := by simp [Fp.value]
    simp only [hnum, fround, if_true, Int.cast_zero, zero_div, zero_mul]
    refine ⟨?_, fun y _ => ?_, fun _ _ _ _ => dvd_zero 2⟩
    · exact hvalue ▸ representable_intCast (n := 0) (by decide)
    · rw [hvalue, sub_zero, abs_zero]
      exact abs_nonneg _
  · obtain ⟨n, hround, hnear⟩ := fround_spec f hnum hden e
    have hne : (num : ℚ) / den * 2 ^ e ≠ 0 := by positivity
    rw [hround]
    exact nearestEven_of_nearestInt hne hnear

/-! ### The four primitives -/

theorem fcvt_nearestEven (f : FpFormat) (n : Int) : NearestEven f n (fcvt f n) := by
  simpa [fcvt] using fround_nearestEven f n one_pos 0

theorem fmul_nearestEven (f : FpFormat) (a b : Fp) : NearestEven f (a.value * b.value) (fmul f a b) := by
  have hexact : ((a.mant * b.mant : Int) : ℚ) / (1 : Nat) * 2 ^ (a.exp + b.exp) = a.value * b.value := by
    rw [Fp.value, Fp.value, zpow_add₀ two_ne_zero]
    push_cast
    ring
  exact hexact ▸ fround_nearestEven f _ one_pos _

theorem fdiv_nearestEven (f : FpFormat) (a : Fp) {b : Fp} (hb : b.mant ≠ 0) :
    NearestEven f (a.value / b.value) (fdiv f a b) := by
  have hinv : (b.mant.sign : ℚ) / b.mant.natAbs = (b.mant : ℚ)⁻¹ := by
    rcases hb.lt_or_gt with h | h
    · rw [Int.sign_eq_neg_one_of_neg h, Nat.cast_natAbs, abs_of_neg h, Int.cast_neg, Int.cast_neg, neg_div_neg_eq,
        Int.cast_one, one_div]
    · rw [Int.sign_eq_one_of_pos h, Nat.cast_natAbs, abs_of_pos h, Int.cast_one, one_div]
  have hexact : ((a.mant * b.mant.sign : Int) : ℚ) / b.mant.natAbs * 2 ^ (a.exp - b.exp) = a.value / b.value := by
    rw [Fp.value, Fp.value, Int.cast_mul, mul_div_assoc, hinv, zpow_sub₀ two_ne_zero, mul_div_mul_comm,
      div_eq_mul_inv (a.mant : ℚ)]
  exact hexact ▸ fround_nearestEven f _ (Int.natAbs_pos.mpr hb) _

/-- A value brought to a lower exponent. -/
theorem Fp.value_eq_of_le (x : Fp) {e : Int} (h : e ≤ x.exp) :
    x.value = ((x.mant * (2 ^ (x.exp - e).toNat : Nat) : Int) : ℚ) * 2 ^ e := by
  push_cast
  rw [Fp.value, mul_assoc, ← zpow_natCast, ← zpow_add₀ two_ne_zero]
  congr 2
  omega

theorem fadd_nearestEven (f : FpFormat) (a b : Fp) : NearestEven f (a.value + b.value) (fadd f a b) := by
  rw [a.value_eq_of_le (min_le_left a.exp b.exp), b.value_eq_of_le (min_le_right a.exp b.exp), ← add_mul, ← Int.cast_add]
  simpa only [fadd, Nat.cast_one, div_one] using fround_nearestEven f _ one_pos _

/-! ### What the law of rounding gives -/

/-- An exact result that is a number of the format is returned as it is. -/
theorem NearestEven.value_eq {f : FpFormat} {q : ℚ} {x : Fp} (h : NearestEven f q x) (hq : representable f q) :
    x.value = q := by
  obtain ⟨_, hnear, _⟩ := h
  have := hnear q hq
  rw [sub_self, abs_zero] at this
  exact sub_eq_zero.mp (abs_nonpos_iff.mp this)

theorem fcvt_value (f : FpFormat) {n : Int} (h : n.natAbs < 2 ^ 24) : (fcvt f n).value = n :=
  (fcvt_nearestEven f n).value_eq (representable_intCast h)

theorem fcvt_code_value (f : FpFormat) (c : Code) : (fcvt f c.toNat).value = c.toNat := by
  have hcode : (c.toNat : Int).natAbs < 2 ^ 24 := by have := c.isLt; omega
  exact_mod_cast fcvt_value f hcode

/-- The rounding of a magnitude of at most `2 ^ k` is off by at most `2 ^ k / 2 ^ 25`, in both formats. -/
theorem NearestEven.abs_sub_le {f : FpFormat} {q : ℚ} {x : Fp} (h : NearestEven f q x) (k : Nat) (hq : |q| ≤ 2 ^ k) :
    |x.value - q| ≤ 2 ^ k / 2 ^ 25 := by
  obtain ⟨_, hnear, _⟩ := h
  set e : Int := (k : Int) - 24 with he
  have hpos : (0 : ℚ) < 2 ^ e := by positivity
  have hscale : (2 : ℚ) ^ k = 2 ^ 24 * 2 ^ e := by
    rw [← zpow_natCast, ← zpow_natCast, ← zpow_add₀ two_ne_zero]
    congr 1
    omega
  have hbound : |q / 2 ^ e| ≤ 2 ^ 24 := by rwa [abs_div, abs_of_pos hpos, div_le_iff₀ hpos, ← hscale]
  have hround : |((round (q / 2 ^ e) : Int) : ℚ) - q / 2 ^ e| ≤ 1 / 2 := by
    rw [abs_sub_comm]
    exact abs_sub_round _
  have hmag := natAbs_le_two_pow_of_near hround hbound
  have hgrid : representable f ((round (q / 2 ^ e) : Int) * 2 ^ e) :=
    representable_of_natAbs_le (hmag.trans (Nat.pow_le_pow_right two_pos (le_fpPrecision f)))
      ((fpMinExp_le f).trans (by omega))
  calc |x.value - q| ≤ |((round (q / 2 ^ e) : Int) : ℚ) * 2 ^ e - q| := hnear _ hgrid
    _ = |((round (q / 2 ^ e) : Int) : ℚ) - q / 2 ^ e| * 2 ^ e := by
      rw [← abs_of_pos hpos, ← abs_mul, abs_of_pos hpos, sub_mul, div_mul_cancel₀ _ hpos.ne']
    _ ≤ 1 / 2 * 2 ^ e := mul_le_mul_of_nonneg_right hround hpos.le
    _ = 2 ^ k / 2 ^ 25 := by rw [hscale]; ring

end Sys2Proof.Machine

open Sys2Proof Sys2Proof.Machine

/-- Settles O30: each primitive hands its exact result to `fround`. -/
theorem arithmeticRoundsOnceToNearestEven : Obligations.ArithmeticRoundsOnceToNearestEven :=
  ⟨fadd_nearestEven, fmul_nearestEven, fun f a _ hb => fdiv_nearestEven f a hb, fcvt_nearestEven⟩

/-- Settles O31: an integer below `2 ^ 24` is a number of both formats, so its rounding is exact. -/
theorem smallIntegersAreExact : Obligations.SmallIntegersAreExact := ⟨fun f _ h => fcvt_value f h, fcvt_code_value⟩

end

section
/-! SUPPORT. Patterns (43_unit_converter.md R117, R122): the fields that `fbits` gives a number of the format, and the number
that IEEE 754 reads from them. -/

namespace Sys2Proof.Machine

theorem Fp.value_eq_zero_iff (x : Fp) : x.value = 0 ↔ x.mant = 0 := by simp [Fp.value, zpow_ne_zero]

theorem Fp.value_neg_iff (x : Fp) : x.value < 0 ↔ x.mant < 0 := by
  rw [Fp.value, ← not_le, mul_nonneg_iff_of_pos_right (by positivity), not_le, Int.cast_lt_zero]

theorem Fp.abs_value (x : Fp) : |x.value| = x.mant.natAbs * 2 ^ x.exp := by
  rw [Fp.value, abs_mul, abs_of_pos (by positivity : (0 : ℚ) < 2 ^ x.exp), Nat.cast_natAbs, Int.cast_abs]

/-- The exponent and fraction fields stand below the sign bit. -/
theorem fields_lt {f : FpFormat} {biased sig : Nat} (hbiased : biased + 3 ≤ 2 ^ fpExpBits f)
    (hsig : sig < 2 * 2 ^ fpFracBits f) : biased * 2 ^ fpFracBits f + sig < 2 ^ (fpExpBits f + fpFracBits f) := by
  calc biased * 2 ^ fpFracBits f + sig < (biased + 2) * 2 ^ fpFracBits f := by
        rw [add_mul]
        exact Nat.add_lt_add_left hsig _
    _ ≤ 2 ^ (fpExpBits f + fpFracBits f) := by
        rw [pow_add]
        exact Nat.mul_le_mul_right _ (Nat.le_of_succ_le hbiased)

/-- The sign bit is a bit of `DATA`. -/
theorem signBit_lt (f : FpFormat) : 2 * 2 ^ (fpExpBits f + fpFracBits f) ≤ 2 ^ 64 := by cases f <;> decide

/-- A pattern whose exponent and fraction fields say `sig * 2 ^ (fpMinExp f + biased)`: a significand with a leading one, or
a subnormal number. -/
structure PatternOf (f : FpFormat) (b : Data) (negative : Bool) (biased sig : Nat) : Prop where
  biased_le : biased + 3 ≤ 2 ^ fpExpBits f
  sig_lt : sig < 2 * 2 ^ fpFracBits f
  normal : biased = 0 ∨ 2 ^ fpFracBits f ≤ sig
  toNat_eq : b.toNat = negative.toNat * 2 ^ (fpExpBits f + fpFracBits f) + (biased * 2 ^ fpFracBits f + sig)

namespace PatternOf

variable {f : FpFormat} {b : Data} {negative : Bool} {biased sig : Nat}

/-- The leading one of the significand counts in the exponent field, which stays below all ones. -/
theorem biased_add_lt (h : PatternOf f b negative biased sig) : biased + sig / 2 ^ fpFracBits f < 2 ^ fpExpBits f - 1 := by
  have hcarry : sig / 2 ^ fpFracBits f < 2 := Nat.div_lt_of_lt_mul (by rw [mul_comm]; exact h.sig_lt)
  have hbiased := h.biased_le
  omega

/-- The three fields of the pattern, one above the other. -/
theorem toNat_eq_fields (h : PatternOf f b negative biased sig) :
    b.toNat = 2 ^ fpFracBits f * (2 ^ fpExpBits f * negative.toNat + (biased + sig / 2 ^ fpFracBits f))
      + sig % 2 ^ fpFracBits f := by
  calc b.toNat = negative.toNat * 2 ^ (fpExpBits f + fpFracBits f) + (biased * 2 ^ fpFracBits f +
        (2 ^ fpFracBits f * (sig / 2 ^ fpFracBits f) + sig % 2 ^ fpFracBits f)) := by rw [Nat.div_add_mod, h.toNat_eq]
    _ = _ := by ring

theorem fractionField_eq (h : PatternOf f b negative biased sig) : fractionField f b = sig % 2 ^ fpFracBits f := by
  rw [fractionField, h.toNat_eq_fields, Nat.mul_add_mod, Nat.mod_mod]

theorem exponentField_eq (h : PatternOf f b negative biased sig) :
    exponentField f b = biased + sig / 2 ^ fpFracBits f := by
  have hfrac := Nat.div_eq_of_lt (Nat.mod_lt sig (Nat.two_pow_pos (fpFracBits f)))
  rw [exponentField, h.toNat_eq_fields, Nat.mul_add_div (Nat.two_pow_pos _), hfrac, Nat.add_zero, Nat.mul_add_mod,
    Nat.mod_eq_of_lt (h.biased_add_lt.trans_le (Nat.sub_le _ _))]

theorem signBit_eq (h : PatternOf f b negative biased sig) : signBit f b = negative := by
  have hbelow := fields_lt h.biased_le h.sig_lt
  rw [signBit, BitVec.getLsbD, h.toNat_eq]
  cases negative with
  | false => simpa using Nat.testBit_lt_two_pow hbelow
  | true => simp [Nat.testBit_two_pow_add_eq, Nat.testBit_lt_two_pow hbelow]

/-- The exponent field is not all ones. -/
theorem exponentField_lt (h : PatternOf f b negative biased sig) : exponentField f b < 2 ^ fpExpBits f - 1 :=
  h.exponentField_eq ▸ h.biased_add_lt

theorem exponentField_pos (h : PatternOf f b negative biased sig) (hsig : 2 ^ fpFracBits f ≤ sig) :
    0 < exponentField f b := by
  rw [h.exponentField_eq]
  exact Nat.add_pos_right _ (Nat.div_pos hsig (Nat.two_pow_pos _))

theorem ieeeValue_eq (h : PatternOf f b negative biased sig) :
    ieeeValue f b = (if negative then -1 else 1) * (sig * 2 ^ (fpMinExp f + biased)) := by
  rw [ieeeValue, h.signBit_eq, h.exponentField_eq, h.fractionField_eq]
  congr 1
  rcases Nat.lt_or_ge sig (2 ^ fpFracBits f) with hsub | hnorm
  · have hbiased : biased = 0 := h.normal.resolve_right hsub.not_ge
    rw [Nat.div_eq_of_lt hsub, Nat.mod_eq_of_lt hsub, hbiased]
    simp
  · have hone : sig / 2 ^ fpFracBits f = 1 := Nat.div_eq_of_lt_le (by simpa using hnorm) h.sig_lt
    have hsplit : 2 ^ fpFracBits f + sig % 2 ^ fpFracBits f = sig := by
      have := Nat.div_add_mod sig (2 ^ fpFracBits f)
      rwa [hone, mul_one] at this
    rw [hone, if_neg (Nat.succ_ne_zero biased), hsplit]
    congr 2
    push_cast
    ring

/-- A binary32 pattern lies in `DATA[31:0]`. -/
theorem extractLsb'_hi_eq_zero (h : PatternOf .binary32 b negative biased sig) : b.extractLsb' 32 32 = 0#32 := by
  have hbiased : biased + 3 ≤ 256 := h.biased_le
  have hsig : sig < 16777216 := h.sig_lt
  have hnat : b.toNat = negative.toNat * 2147483648 + (biased * 8388608 + sig) := h.toNat_eq
  have hsign := negative.toNat_le
  have hlow : b.toNat < 2 ^ 32 := by omega
  apply BitVec.eq_of_toNat_eq
  rw [BitVec.extractLsb'_toNat, Nat.shiftRight_eq_div_pow, Nat.div_eq_of_lt hlow]
  rfl

end PatternOf

/-- A positive number of the format is a significand at its last place. -/
theorem representable.exists_significand {f : FpFormat} {y : ℚ} (hy : representable f y) (hpos : 0 < y) :
    ∃ sig : Nat, y = sig * 2 ^ lastPlace f y ∧ sig < 2 * 2 ^ fpFracBits f ∧
      (lastPlace f y = fpMinExp f ∨ 2 ^ fpFracBits f ≤ sig) := by
  have hscale : (0 : ℚ) < 2 ^ lastPlace f y := by positivity
  obtain ⟨k, hk⟩ := (hy.multiple_or_lt hpos.ne').resolve_right fun ⟨hlt, hle⟩ => hlt.not_ge hle
  have hk0 : (0 : ℚ) ≤ k := nonneg_of_mul_nonneg_left (hk ▸ hpos.le) hscale
  obtain ⟨sig, rfl⟩ := Int.eq_ofNat_of_zero_le (Int.cast_nonneg_iff.mp hk0)
  rw [Int.cast_natCast] at hk
  refine ⟨sig, hk, ?_, or_iff_not_imp_left.mpr fun h => ?_⟩
  · have hlt := abs_lt_lastPlace (f := f) hpos.ne'
    rw [abs_of_pos hpos, fpPrecision_eq, pow_succ'] at hlt
    nth_rw 1 [hk] at hlt
    exact_mod_cast lt_of_mul_lt_mul_right hlt hscale.le
  · have hle := binade_lastPlace_le_abs hpos.ne' h
    rw [abs_of_pos hpos] at hle
    nth_rw 2 [hk] at hle
    exact_mod_cast le_of_mul_le_mul_right hle hscale

/-- The greatest exponent of the format bounds the biased last place. -/
theorem biased_lastPlace_le {f : FpFormat} {y : ℚ} (hpos : 0 < y) (hlt : y < 2 ^ (fpBias f + 1)) :
    (lastPlace f y - fpMinExp f).toNat + 3 ≤ 2 ^ fpExpBits f := by
  have hlog : Int.log 2 |y| < fpBias f + 1 := by
    rw [abs_of_pos hpos, ← Int.lt_zpow_iff_log_lt one_lt_two hpos]
    exact_mod_cast hlt
  simp only [lastPlace]
  cases f with
  | binary32 =>
    change Int.log 2 |y| < 128 at hlog
    change (max (Int.log 2 |y| - 23) (-149) - -149).toNat + 3 ≤ 256
    omega
  | binary64 =>
    change Int.log 2 |y| < 1024 at hlog
    change (max (Int.log 2 |y| - 52) (-1074) - -1074).toNat + 3 ≤ 2048
    omega

/-- The fields of a magnitude are its last place and its significand there. -/
theorem fbitsMagnitude_eq {f : FpFormat} {m : Nat} (hm : 0 < m) {e : Int} {sig : Nat}
    (hlt : (m * 2 ^ e : ℚ) < 2 ^ (fpBias f + 1)) (hsig : (m * 2 ^ e : ℚ) = sig * 2 ^ lastPlace f (m * 2 ^ e))
    (hsiglt : sig < 2 * 2 ^ fpFracBits f) :
    fbitsMagnitude f m e = (lastPlace f (m * 2 ^ e) - fpMinExp f).toNat * 2 ^ fpFracBits f + sig := by
  have hmpos : (0 : ℚ) < m := by exact_mod_cast hm
  have hpos : (0 : ℚ) < m * 2 ^ e := by positivity
  have hplace : max ((m.log2 : Int) + e - fpFracBits f) (fpMinExp f) = lastPlace f (m * 2 ^ e) := by
    rw [lastPlace, abs_of_pos hpos, log_two_mul_zpow hmpos, log_two_natCast]
  have hbiased := biased_lastPlace_le hpos hlt
  set u := lastPlace f (m * 2 ^ e)
  set q := scaleQuot m 1 (e - u)
  have hq : 0 < q.2 := scaleQuot_snd_pos m one_pos _
  have hquot : q.1 / q.2 = sig := by
    have hexact : (q.1 : ℚ) / q.2 = sig := by
      rw [scaleQuot_quotient, Nat.cast_one, div_one, zpow_sub₀ two_ne_zero, ← mul_div_assoc, hsig,
        mul_div_cancel_right₀ _ (by positivity)]
    have hmul : q.1 = sig * q.2 := by
      rw [div_eq_iff (by exact_mod_cast hq.ne')] at hexact
      exact_mod_cast hexact
    rw [hmul, Nat.mul_div_cancel _ hq]
  have hbelow : ¬(2 ^ fpExpBits f - 1) * 2 ^ fpFracBits f ≤ (u - fpMinExp f).toNat * 2 ^ fpFracBits f + sig := by
    have hle : ((u - fpMinExp f).toNat + 2) * 2 ^ fpFracBits f ≤ (2 ^ fpExpBits f - 1) * 2 ^ fpFracBits f :=
      Nat.mul_le_mul_right _ (by omega)
    rw [add_mul] at hle
    omega
  simp only [fbitsMagnitude, hplace]
  rw [show (scaleQuot m 1 (e - u)).1 / (scaleQuot m 1 (e - u)).2 = sig from hquot, if_neg hbelow]

/-- Every number of the format within its range has a pattern that says its sign and magnitude. -/
theorem exists_patternOf_fbits {f : FpFormat} {x : Fp} (hx : representable f x.value)
    (hlt : |x.value| < 2 ^ (fpBias f + 1)) :
    ∃ biased sig : Nat, PatternOf f (fbits f x) (decide (x.mant < 0)) biased sig ∧
      |x.value| = sig * 2 ^ (fpMinExp f + biased) := by
  by_cases hzero : x.mant = 0
  · refine ⟨0, 0, ⟨by cases f <;> decide, by positivity, .inl rfl, ?_⟩, ?_⟩
    · simp [fbits, hzero]
    · simp [(Fp.value_eq_zero_iff x).mpr hzero]
  · have hm : 0 < x.mant.natAbs := Int.natAbs_pos.mpr hzero
    have hpos : 0 < |x.value| := abs_pos.mpr (mt (Fp.value_eq_zero_iff x).mp hzero)
    have habs : representable f |x.value| := by
      obtain ⟨m, e, hm, he, hval⟩ := hx
      refine ⟨|m|, e, by rwa [Int.natAbs_abs], he, ?_⟩
      rw [hval, abs_mul, Int.cast_abs, abs_of_pos (by positivity : (0 : ℚ) < 2 ^ e)]
    obtain ⟨sig, hsig, hsiglt, hnormal⟩ := habs.exists_significand hpos
    have hbiased := biased_lastPlace_le hpos hlt
    have hplace : fpMinExp f ≤ lastPlace f |x.value| := le_max_right _ _
    refine ⟨(lastPlace f |x.value| - fpMinExp f).toNat, sig, ⟨hbiased, hsiglt, ?_, ?_⟩, ?_⟩
    · exact hnormal.imp_left fun h => by omega
    · have hmag := fbitsMagnitude_eq (f := f) hm (e := x.exp) (sig := sig)
      rw [← x.abs_value] at hmag
      have hfields := fields_lt hbiased hsiglt
      have hwidth := signBit_lt f
      rw [fbits, if_neg hzero, hmag hlt hsig hsiglt, BitVec.toNat_ofNat]
      split
      next hneg =>
        rw [Nat.mod_eq_of_lt (by omega), decide_eq_true hneg, Bool.toNat_true, one_mul, add_comm]
      next hpos =>
        rw [Nat.mod_eq_of_lt (by omega), decide_eq_false hpos, Bool.toNat_false, zero_mul, zero_add, add_zero]
    · rw [Int.toNat_of_nonneg (by omega), add_sub_cancel]
      exact hsig

/-- The number that a pattern stands for is the value it was made from. -/
theorem ieeeValue_fbits {f : FpFormat} {x : Fp} (hx : representable f x.value) (hlt : |x.value| < 2 ^ (fpBias f + 1)) :
    ieeeValue f (fbits f x) = x.value := by
  obtain ⟨biased, sig, hpattern, hvalue⟩ := exists_patternOf_fbits hx hlt
  rw [hpattern.ieeeValue_eq, ← hvalue]
  rcases lt_or_ge x.value 0 with hneg | hpos
  · rw [decide_eq_true (x.value_neg_iff.mp hneg), if_pos rfl, abs_of_neg hneg, neg_one_mul, neg_neg]
  · rw [decide_eq_false (mt x.value_neg_iff.mpr hpos.not_gt), if_neg (by decide), abs_of_nonneg hpos, one_mul]

/-- Only zero has the pattern of +0. -/
theorem fbits_eq_zero_iff {f : FpFormat} {x : Fp} (hx : representable f x.value)
    (hlt : |x.value| < 2 ^ (fpBias f + 1)) : fbits f x = 0#64 ↔ x.value = 0 := by
  constructor
  · intro h
    rw [← ieeeValue_fbits hx hlt, h]
    cases f <;> simp [ieeeValue, exponentField, fractionField, signBit]
  · intro h
    rw [fbits, if_pos (x.value_eq_zero_iff.mp h)]

/-- A number of the format from its least normal magnitude on, and within its range, has the pattern of a normal number. -/
theorem normalOrPlusZero_fbits {f : FpFormat} {x : Fp} (hx : representable f x.value)
    (hlt : |x.value| < 2 ^ (fpBias f + 1)) (hle : (2 : ℚ) ^ fpFracBits f * 2 ^ fpMinExp f ≤ |x.value|) :
    normalOrPlusZero f (fbits f x) := by
  obtain ⟨biased, sig, hpattern, hvalue⟩ := exists_patternOf_fbits hx hlt
  refine .inr ⟨hpattern.exponentField_pos ?_, hpattern.exponentField_lt⟩
  rcases hpattern.normal with rfl | hnormal
  · rw [hvalue, Nat.cast_zero, add_zero] at hle
    exact_mod_cast le_of_mul_le_mul_right hle (by positivity)
  · exact hnormal

end Sys2Proof.Machine

open Sys2Proof Sys2Proof.Machine

/-- Settles O32: a rounded value is a number of the format, so its pattern has fields that stand for it. -/
theorem patternStandsForItsValue : Obligations.PatternStandsForItsValue := by
  intro f num den e hden hlt
  have hround := (fround_nearestEven f num hden e).1
  obtain ⟨_, _, hpattern, _⟩ := exists_patternOf_fbits hround hlt
  exact ⟨ieeeValue_fbits hround hlt, hpattern.exponentField_lt, fun h => by subst h; exact hpattern.extractLsb'_hi_eq_zero⟩

end

section
/-! SUPPORT. The fixed-point conversions (43_unit_converter.md R124 to R128). -/

namespace Sys2Proof.Machine

/-! ### The scaled quotient -/

theorem scaleCode_eq_floor (k : Nat) (c : Code) : scaleCode k c = ⌊(k * c.toNat / 65535 * 65536 : ℚ)⌋ := by
  have hfloor := Rat.floor_natCast_div_natCast (k * c.toNat * 65536) 65535
  rw [scaleCode, Int.natCast_ediv, ← hfloor]
  congr 1
  push_cast
  ring

/-- Neighbouring codes are at least one unit apart (R124). -/
theorem scaleCode_lt_scaleCode {k : Nat} (hk : 0 < k) {c d : Code} (h : c.toNat < d.toNat) :
    scaleCode k c < scaleCode k d := by
  have hstep : k * c.toNat * 65536 + 65535 ≤ k * d.toNat * 65536 := by
    have hmul : k * (c.toNat + 1) ≤ k * d.toNat := Nat.mul_le_mul_left k h
    rw [mul_add] at hmul
    omega
  simp only [scaleCode]
  omega

theorem celsiusFixed_lt {c d : Code} (h : c.toNat < d.toNat) : celsiusFixed c < celsiusFixed d :=
  sub_lt_sub_right (scaleCode_lt_scaleCode (by decide) h) _

theorem fahrenheitFixed_lt {c d : Code} (h : c.toNat < d.toNat) : fahrenheitFixed c < fahrenheitFixed d :=
  sub_lt_sub_right (scaleCode_lt_scaleCode (by decide) h) _

theorem humidityFixed_lt {c d : Code} (h : c.toNat < d.toNat) : humidityFixed c < humidityFixed d :=
  scaleCode_lt_scaleCode (by decide) h

theorem celsiusFixed_eq_floor (c : Code) : celsiusFixed c = ⌊tcExact c.toNat * 65536⌋ := by
  rw [celsiusFixed, scaleCode_eq_floor, show (2949120 : Int) = ((2949120 : Nat) : Int) from rfl, ← Int.floor_sub_natCast]
  congr 1
  rw [tcExact]
  push_cast
  ring

theorem fahrenheitFixed_eq_floor (c : Code) : fahrenheitFixed c = ⌊tfExact c.toNat * 65536⌋ := by
  rw [fahrenheitFixed, scaleCode_eq_floor, show (3211264 : Int) = ((3211264 : Nat) : Int) from rfl,
    ← Int.floor_sub_natCast]
  congr 1
  rw [tfExact, tcExact]
  push_cast
  ring

theorem humidityFixed_eq_floor (c : Code) : humidityFixed c = ⌊rhExact c.toNat * 65536⌋ := scaleCode_eq_floor 100 c

/-- A scaled quotient runs from 0 to `k` in units of 1/65536 (R128). -/
theorem scaleCode_bounds (k : Nat) (c : Code) : 0 ≤ scaleCode k c ∧ scaleCode k c ≤ k * 65536 := by
  have hle : k * c.toNat * 65536 ≤ k * 65536 * 65535 := by
    rw [mul_assoc, mul_assoc, mul_comm c.toNat]
    exact Nat.mul_le_mul_left _ (Nat.mul_le_mul_left _ (Nat.le_of_lt_succ c.isLt))
  have hquot : k * c.toNat * 65536 / 65535 ≤ k * 65536 := Nat.div_le_of_le_mul (by rwa [mul_comm 65535])
  exact ⟨Int.natCast_nonneg _, by rw [scaleCode]; exact_mod_cast hquot⟩

/-- The range of R128. -/
def fixedRange : Set Int := Set.Icc (-3211264) 17432576

theorem celsiusFixed_mem_range (c : Code) : celsiusFixed c ∈ fixedRange := by
  have h := scaleCode_bounds 175 c
  rw [fixedRange, Set.mem_Icc, celsiusFixed]
  omega

theorem fahrenheitFixed_mem_range (c : Code) : fahrenheitFixed c ∈ fixedRange := by
  have h := scaleCode_bounds 315 c
  rw [fixedRange, Set.mem_Icc, fahrenheitFixed]
  omega

theorem humidityFixed_mem_range (c : Code) : humidityFixed c ∈ fixedRange := by
  have h := scaleCode_bounds 100 c
  rw [fixedRange, Set.mem_Icc, humidityFixed]
  omega

/-! ### Its place in `DATA` -/

/-- Under zeros (R124). -/
theorem extractLsb'_hi_fixedData (n : Int) : (fixedData n).extractLsb' 32 32 = 0#32 := by
  ext i hi
  simp [fixedData]

/-- In the range of R128 nothing wraps. -/
theorem toInt_extractLsb'_lo_fixedData {n : Int} (hn : n ∈ fixedRange) :
    ((fixedData n).extractLsb' 0 32).toInt = n := by
  have hword : (fixedData n).extractLsb' 0 32 = BitVec.ofInt 32 n := by
    ext i hi
    simp [fixedData, hi, show i < 64 by omega]
  obtain ⟨hlow, hhigh⟩ := hn
  rw [hword, BitVec.toInt_ofInt]
  exact Int.bmod_eq_of_le (by omega) (by omega)

/-- A floor in units of 1/65536 is less than one unit below (R128). -/
theorem floor_unit_error (x : ℚ) : 0 ≤ x - ⌊x * 65536⌋ / 65536 ∧ x - ⌊x * 65536⌋ / 65536 < 1 / 2 ^ 16 := by
  have hle := Int.floor_le (x * 65536)
  have hlt := Int.lt_floor_add_one (x * 65536)
  constructor <;> linarith

/-! ### The signs (R125, R126) -/

theorem celsiusFixed_sign (c : Code) :
    (c.toNat ≤ 0x41D3 → celsiusFixed c < 0) ∧ (0x41D4 ≤ c.toNat → 0 < celsiusFixed c) := by
  simp only [celsiusFixed, scaleCode]
  omega

theorem fahrenheitFixed_sign (c : Code) :
    (c.toNat ≤ 0x27D2 → fahrenheitFixed c < 0) ∧ (0x27D3 ≤ c.toNat → 0 < fahrenheitFixed c) := by
  simp only [fahrenheitFixed, scaleCode]
  omega

end Sys2Proof.Machine

open Sys2Proof Sys2Proof.Machine

/-- Settles O25: each meaning is its formula, the decoder reads the three as format R, and the signs follow from the quotient. -/
theorem cvtxRespondsWithTheScaledQuotient : Obligations.CvtxRespondsWithTheScaledQuotient :=
  ⟨fun _ _ => rfl, fun _ _ => rfl, fun _ _ => rfl, formatR_cvtxTc, formatR_cvtxTf, formatR_cvtxRh,
    by decide, by decide, by decide, celsiusFixed_sign, by decide, by decide, by decide, fahrenheitFixed_sign,
    by decide, by decide, fun c => (scaleCode_bounds 100 c).1, extractLsb'_hi_fixedData,
    by decide, by decide, by decide, by decide, by decide, by decide, by decide, by decide⟩

/-- Settles O26: the quotient is the floor of the exact value in units of 1/65536, which determines the error and the range. -/
theorem fixedPointIsTheFloorOfTheExactValue : Obligations.FixedPointIsTheFloorOfTheExactValue := by
  intro c
  refine ⟨fun s => ⟨rfl, rfl, rfl⟩,
    ⟨celsiusFixed_eq_floor c, fahrenheitFixed_eq_floor c, humidityFixed_eq_floor c⟩, fun n hn => ?range, ?tc, ?tf, ?rh⟩
  case range =>
    have hrange : n ∈ fixedRange := by
      simp only [List.mem_cons, List.not_mem_nil, or_false] at hn
      rcases hn with rfl | rfl | rfl
      · exact celsiusFixed_mem_range c
      · exact fahrenheitFixed_mem_range c
      · exact humidityFixed_mem_range c
    exact ⟨hrange.1, hrange.2, toInt_extractLsb'_lo_fixedData hrange, extractLsb'_hi_fixedData n⟩
  case tc => exact celsiusFixed_eq_floor c ▸ floor_unit_error (tcExact c.toNat)
  case tf => exact fahrenheitFixed_eq_floor c ▸ floor_unit_error (tfExact c.toNat)
  case rh => exact humidityFixed_eq_floor c ▸ floor_unit_error (rhExact c.toNat)

end

section
/-! SUPPORT. The floating-point conversions (43_unit_converter.md R119 to R121, R123, R129, R131): each written operation
rounds a magnitude of at most 2048 once, so every result stays close to the exact value, closer than two codes are to each
other and than the exact values come to zero. -/

namespace Sys2Proof.Machine

/-- The `p` of R119. -/
def celsiusProduct (f : FpFormat) (c : Code) : Fp := fmul f (fcvt f 175) (codeFraction f c)

/-- The `a` of R120. -/
def ninefold (f : FpFormat) (c : Code) : Fp := fmul f (celsius f c) (fcvt f 9)

/-- The `b` of R120. -/
def ninefoldFifth (f : FpFormat) (c : Code) : Fp := fdiv f (ninefold f c) (fcvt f 5)

section
variable (f : FpFormat) (c : Code)

/-! ### One rounding for each operation -/

theorem fcvt_mant_ne_zero {n : Int} (h : n.natAbs < 2 ^ 24) (hn : n ≠ 0) : (fcvt f n).mant ≠ 0 := by
  rw [ne_eq, ← Fp.value_eq_zero_iff, fcvt_value f h]
  exact_mod_cast hn

theorem codeFraction_nearestEven : NearestEven f (c.toNat / 65535) (codeFraction f c) := by
  have hdivisor : (fcvt f 65535).mant ≠ 0 := fcvt_mant_ne_zero f (by decide) (by decide)
  simpa [codeFraction, fcvt_code_value, fcvt_value f (n := 65535)] using fdiv_nearestEven f (fcvt f c.toNat) hdivisor

theorem celsiusProduct_nearestEven : NearestEven f (175 * (codeFraction f c).value) (celsiusProduct f c) := by
  simpa [celsiusProduct, fcvt_value f (n := 175)] using fmul_nearestEven f (fcvt f 175) (codeFraction f c)

theorem celsius_nearestEven : NearestEven f (-45 + (celsiusProduct f c).value) (celsius f c) := by
  simpa [celsius, celsiusProduct, fcvt_value f (n := -45)] using fadd_nearestEven f (fcvt f (-45)) (celsiusProduct f c)

theorem ninefold_nearestEven : NearestEven f ((celsius f c).value * 9) (ninefold f c) := by
  simpa [ninefold, fcvt_value f (n := 9)] using fmul_nearestEven f (celsius f c) (fcvt f 9)

theorem ninefoldFifth_nearestEven : NearestEven f ((ninefold f c).value / 5) (ninefoldFifth f c) := by
  have hdivisor : (fcvt f 5).mant ≠ 0 := fcvt_mant_ne_zero f (by decide) (by decide)
  simpa [ninefoldFifth, fcvt_value f (n := 5)] using fdiv_nearestEven f (ninefold f c) hdivisor

theorem fahrenheit_nearestEven : NearestEven f ((ninefoldFifth f c).value + 32) (fahrenheit f c) := by
  simpa [fahrenheit, ninefoldFifth, ninefold, fcvt_value f (n := 32)] using
    fadd_nearestEven f (ninefoldFifth f c) (fcvt f 32)

theorem humidity_nearestEven : NearestEven f (100 * (codeFraction f c).value) (humidity f c) := by
  simpa [humidity, fcvt_value f (n := 100)] using fmul_nearestEven f (fcvt f 100) (codeFraction f c)

/-! ### The distance from the exact value -/

theorem code_bounds : (0 : ℚ) ≤ c.toNat ∧ (c.toNat : ℚ) ≤ 65535 :=
  ⟨Nat.cast_nonneg _, by exact_mod_cast Nat.le_of_lt_succ c.isLt⟩

theorem codeFraction_error : |(codeFraction f c).value - c.toNat / 65535| ≤ 1 / 2 ^ 25 := by
  obtain ⟨hnonneg, hle⟩ := code_bounds c
  exact (codeFraction_nearestEven f c).abs_sub_le 0 (abs_le.mpr (by constructor <;> linarith))

theorem celsiusProduct_error : |(celsiusProduct f c).value - 175 * c.toNat / 65535| ≤ 431 / 2 ^ 25 := by
  obtain ⟨hnonneg, hle⟩ := code_bounds c
  have herror := abs_le.mp (codeFraction_error f c)
  have hround := abs_le.mp ((celsiusProduct_nearestEven f c).abs_sub_le 8 (abs_le.mpr (by constructor <;> linarith)))
  rw [abs_le]
  constructor <;> linarith

theorem celsius_error : |(celsius f c).value - tcExact c.toNat| ≤ 1 / 2 ^ 15 := by
  obtain ⟨hnonneg, hle⟩ := code_bounds c
  have herror := abs_le.mp (celsiusProduct_error f c)
  have hround := abs_le.mp ((celsius_nearestEven f c).abs_sub_le 8 (abs_le.mpr (by constructor <;> linarith)))
  rw [abs_le, tcExact]
  constructor <;> linarith

theorem ninefold_error : |(ninefold f c).value - tcExact c.toNat * 9| ≤ 11 / 2 ^ 15 := by
  obtain ⟨hnonneg, hle⟩ := code_bounds c
  have herror := abs_le.mp (celsius_error f c)
  rw [tcExact] at herror ⊢
  have hround := abs_le.mp ((ninefold_nearestEven f c).abs_sub_le 11 (abs_le.mpr (by constructor <;> linarith)))
  rw [abs_le]
  constructor <;> linarith

theorem ninefoldFifth_error : |(ninefoldFifth f c).value - tcExact c.toNat * 9 / 5| ≤ 5 / 2 ^ 16 := by
  obtain ⟨hnonneg, hle⟩ := code_bounds c
  have herror := abs_le.mp (ninefold_error f c)
  rw [tcExact] at herror ⊢
  have hround := abs_le.mp ((ninefoldFifth_nearestEven f c).abs_sub_le 8 (abs_le.mpr (by constructor <;> linarith)))
  rw [abs_le]
  constructor <;> linarith

theorem fahrenheit_error : |(fahrenheit f c).value - tfExact c.toNat| ≤ 7 / 2 ^ 16 := by
  obtain ⟨hnonneg, hle⟩ := code_bounds c
  have herror := abs_le.mp (ninefoldFifth_error f c)
  rw [tcExact] at herror
  rw [tfExact, tcExact]
  have hround := abs_le.mp ((fahrenheit_nearestEven f c).abs_sub_le 9 (abs_le.mpr (by constructor <;> linarith)))
  rw [abs_le]
  constructor <;> linarith

theorem humidity_error : |(humidity f c).value - rhExact c.toNat| ≤ 1 / 2 ^ 17 := by
  obtain ⟨hnonneg, hle⟩ := code_bounds c
  have herror := abs_le.mp (codeFraction_error f c)
  have hround := abs_le.mp ((humidity_nearestEven f c).abs_sub_le 7 (abs_le.mpr (by constructor <;> linarith)))
  rw [abs_le, rhExact]
  constructor <;> linarith

/-! ### Signs and zeros -/

/-- No code has an exact value closer to zero than 0x41D4, with 25/65535 degrees Celsius. -/
theorem tcExact_sign (r : Nat) :
    (r ≤ 0x41D3 → tcExact r ≤ -(25 / 65535)) ∧ (0x41D4 ≤ r → 25 / 65535 ≤ tcExact r) := by
  rw [tcExact]
  refine ⟨fun h => ?_, fun h => ?_⟩
  · have hcode : (r : ℚ) ≤ 0x41D3 := by exact_mod_cast h
    linarith
  · have hcode : (0x41D4 : ℚ) ≤ r := by exact_mod_cast h
    linarith

/-- No code has an exact value closer to zero than 0x27D2, with -105/65535 degrees Fahrenheit. -/
theorem tfExact_sign (r : Nat) :
    (r ≤ 0x27D2 → tfExact r ≤ -(105 / 65535)) ∧ (0x27D3 ≤ r → 105 / 65535 ≤ tfExact r) := by
  rw [tfExact, tcExact]
  refine ⟨fun h => ?_, fun h => ?_⟩
  · have hcode : (r : ℚ) ≤ 0x27D2 := by exact_mod_cast h
    linarith
  · have hcode : (0x27D3 : ℚ) ≤ r := by exact_mod_cast h
    linarith

theorem le_abs_tcExact (r : Nat) : 25 / 65535 ≤ |tcExact r| := by
  rcases Nat.lt_or_ge r 0x41D4 with h | h
  · exact le_abs.mpr (.inr (le_neg.mp ((tcExact_sign r).1 (Nat.le_of_lt_succ h))))
  · exact le_abs.mpr (.inl ((tcExact_sign r).2 h))

theorem le_abs_tfExact (r : Nat) : 105 / 65535 ≤ |tfExact r| := by
  rcases Nat.lt_or_ge r 0x27D3 with h | h
  · exact le_abs.mpr (.inr (le_neg.mp ((tfExact_sign r).1 (Nat.le_of_lt_succ h))))
  · exact le_abs.mpr (.inl ((tfExact_sign r).2 h))

theorem celsius_sign :
    (c.toNat ≤ 0x41D3 → (celsius f c).value < 0) ∧ (0x41D4 ≤ c.toNat → 0 < (celsius f c).value) := by
  have herror := abs_le.mp (celsius_error f c)
  refine ⟨fun h => ?_, fun h => ?_⟩
  · linarith [(tcExact_sign c.toNat).1 h]
  · linarith [(tcExact_sign c.toNat).2 h]

theorem fahrenheit_sign :
    (c.toNat ≤ 0x27D2 → (fahrenheit f c).value < 0) ∧ (0x27D3 ≤ c.toNat → 0 < (fahrenheit f c).value) := by
  have herror := abs_le.mp (fahrenheit_error f c)
  refine ⟨fun h => ?_, fun h => ?_⟩
  · linarith [(tfExact_sign c.toNat).1 h]
  · linarith [(tfExact_sign c.toNat).2 h]

theorem celsius_ne_zero : (celsius f c).value ≠ 0 := by
  obtain ⟨hneg, hpos⟩ := celsius_sign f c
  rcases Nat.lt_or_ge c.toNat 0x41D4 with h | h
  · exact (hneg (Nat.le_of_lt_succ h)).ne
  · exact (hpos h).ne'

theorem fahrenheit_ne_zero : (fahrenheit f c).value ≠ 0 := by
  obtain ⟨hneg, hpos⟩ := fahrenheit_sign f c
  rcases Nat.lt_or_ge c.toNat 0x27D3 with h | h
  · exact (hneg (Nat.le_of_lt_succ h)).ne
  · exact (hpos h).ne'

/-- A rounding of zero is zero. -/
theorem NearestEven.value_eq_zero {f : FpFormat} {x : Fp} (h : NearestEven f 0 x) : x.value = 0 :=
  h.value_eq (representable_intCast (n := 0) (by decide))

theorem codeFraction_zero : (codeFraction f 0x0000#16).value = 0 := by
  have h := codeFraction_nearestEven f 0x0000#16
  rw [BitVec.toNat_zero, Nat.cast_zero, zero_div] at h
  exact h.value_eq_zero

theorem celsiusProduct_zero : (celsiusProduct f 0x0000#16).value = 0 := by
  have h := celsiusProduct_nearestEven f 0x0000#16
  rw [codeFraction_zero, mul_zero] at h
  exact h.value_eq_zero

theorem humidity_zero : (humidity f 0x0000#16).value = 0 := by
  have h := humidity_nearestEven f 0x0000#16
  rw [codeFraction_zero, mul_zero] at h
  exact h.value_eq_zero

variable {c} in
theorem one_le_code (h : c ≠ 0x0000#16) : (1 : ℚ) ≤ c.toNat := by
  have hne : c.toNat ≠ 0 := fun h0 => h (BitVec.eq_of_toNat_eq h0)
  exact_mod_cast Nat.one_le_iff_ne_zero.mpr hne

variable {c} in
theorem humidity_pos (h : c ≠ 0x0000#16) : 0 < (humidity f c).value := by
  have hcode := one_le_code h
  have herror := abs_le.mp (humidity_error f c)
  rw [rhExact] at herror
  linarith

theorem humidity_eq_zero_iff : (humidity f c).value = 0 ↔ c = 0x0000#16 := by
  refine ⟨fun h => ?_, fun h => h ▸ humidity_zero f⟩
  by_contra hc
  exact (humidity_pos f hc).ne' h

/-! ### The results increase (R129) -/

section
variable {c} {d : Code} (h : c.toNat < d.toNat)
include h

theorem code_add_one_le : (c.toNat : ℚ) + 1 ≤ d.toNat := by exact_mod_cast h

theorem celsius_lt : (celsius f c).value < (celsius f d).value := by
  have hcode := code_add_one_le h
  have hc := abs_le.mp (celsius_error f c)
  have hd := abs_le.mp (celsius_error f d)
  rw [tcExact] at hc hd
  linarith

theorem fahrenheit_lt : (fahrenheit f c).value < (fahrenheit f d).value := by
  have hcode := code_add_one_le h
  have hc := abs_le.mp (fahrenheit_error f c)
  have hd := abs_le.mp (fahrenheit_error f d)
  rw [tfExact, tcExact] at hc hd
  linarith

theorem humidity_lt : (humidity f c).value < (humidity f d).value := by
  have hcode := code_add_one_le h
  have hc := abs_le.mp (humidity_error f c)
  have hd := abs_le.mp (humidity_error f d)
  rw [rhExact] at hc hd
  linarith

end

end

/-! ### Patterns of the results (R123) -/

/-- A number of the format that is zero or neither tiny nor large. -/
structure Fp.Moderate (f : FpFormat) (x : Fp) : Prop where
  representable : representable f x.value
  abs_le : |x.value| ≤ 2 ^ 11
  zero_or_le_abs : x.value = 0 ∨ 1 / 2 ^ 17 ≤ |x.value|

namespace Fp.Moderate

variable {f : FpFormat} {x y : Fp}

theorem abs_lt (h : x.Moderate f) : |x.value| < 2 ^ (fpBias f + 1) := by
  have hbias : 11 < fpBias f + 1 := by cases f <;> decide
  exact h.abs_le.trans_lt (pow_lt_pow_right₀ one_lt_two hbias)

theorem normalOrPlusZero (h : x.Moderate f) : normalOrPlusZero f (fbits f x) := by
  rcases h.zero_or_le_abs with hzero | hle
  · exact .inl ((fbits_eq_zero_iff h.representable h.abs_lt).mpr hzero)
  · refine normalOrPlusZero_fbits h.representable h.abs_lt (le_trans ?_ hle)
    have hexp : (fpFracBits f : Int) + fpMinExp f ≤ -17 := by cases f <;> decide
    calc (2 : ℚ) ^ fpFracBits f * 2 ^ fpMinExp f = 2 ^ ((fpFracBits f : Int) + fpMinExp f) := by
          rw [zpow_add₀ two_ne_zero, zpow_natCast]
      _ ≤ 2 ^ (-17 : Int) := zpow_le_zpow_right₀ one_le_two hexp
      _ = 1 / 2 ^ 17 := by norm_num

theorem fbits_eq_zero_iff (h : x.Moderate f) : fbits f x = 0#64 ↔ x.value = 0 :=
  Machine.fbits_eq_zero_iff h.representable h.abs_lt

theorem value_eq_of_fbits_eq (hx : x.Moderate f) (hy : y.Moderate f) (h : fbits f x = fbits f y) : x.value = y.value := by
  rw [← ieeeValue_fbits hx.representable hx.abs_lt, h, ieeeValue_fbits hy.representable hy.abs_lt]

/-- A rounding of zero, or of a number close to an exact value that is away from zero. -/
theorem of_error {q y δ : ℚ} (h : NearestEven f q x) (herror : |x.value - y| ≤ δ) (hδ : δ ≤ 1) (hy : |y| ≤ 2 ^ 11 - 1)
    (hsep : q = 0 ∨ 1 / 2 ^ 17 + δ ≤ |y|) : x.Moderate f where
  representable := h.1
  abs_le := by linarith [abs_sub_abs_le_abs_sub x.value y]
  zero_or_le_abs := by
    refine hsep.imp (fun hq => (hq ▸ h).value_eq_zero) fun hle => ?_
    have htriangle := abs_sub_abs_le_abs_sub y x.value
    rw [abs_sub_comm] at htriangle
    linarith

end Fp.Moderate

section
variable (f : FpFormat) (c : Code)

theorem abs_tcExact_le : |tcExact c.toNat| ≤ 130 := by
  obtain ⟨hnonneg, hle⟩ := code_bounds c
  rw [tcExact, abs_le]
  constructor <;> linarith

theorem abs_tfExact_le : |tfExact c.toNat| ≤ 266 := by
  obtain ⟨hnonneg, hle⟩ := code_bounds c
  rw [tfExact, tcExact, abs_le]
  constructor <;> linarith

theorem codeFraction_moderate : (codeFraction f c).Moderate f := by
  obtain ⟨hnonneg, hle⟩ := code_bounds c
  have habs : |(c.toNat : ℚ) / 65535| = c.toNat / 65535 := abs_of_nonneg (by positivity)
  refine .of_error (codeFraction_nearestEven f c) (codeFraction_error f c) (by norm_num) (by linarith) ?_
  rcases eq_or_ne c 0x0000#16 with rfl | hc
  · exact .inl (by simp)
  · exact .inr (by linarith [one_le_code hc])

theorem celsiusProduct_moderate : (celsiusProduct f c).Moderate f := by
  obtain ⟨hnonneg, hle⟩ := code_bounds c
  have habs : |175 * (c.toNat : ℚ) / 65535| = 175 * c.toNat / 65535 := abs_of_nonneg (by positivity)
  refine .of_error (celsiusProduct_nearestEven f c) (celsiusProduct_error f c) (by norm_num) (by linarith) ?_
  rcases eq_or_ne c 0x0000#16 with rfl | hc
  · exact .inl (by rw [codeFraction_zero, mul_zero])
  · exact .inr (by linarith [one_le_code hc])

theorem humidity_moderate : (humidity f c).Moderate f := by
  obtain ⟨hnonneg, hle⟩ := code_bounds c
  have habs : |rhExact c.toNat| = 100 * c.toNat / 65535 := abs_of_nonneg (by rw [rhExact]; positivity)
  refine .of_error (humidity_nearestEven f c) (humidity_error f c) (by norm_num) (by linarith) ?_
  rcases eq_or_ne c 0x0000#16 with rfl | hc
  · exact .inl (by rw [codeFraction_zero, mul_zero])
  · exact .inr (by linarith [one_le_code hc])

theorem celsius_moderate : (celsius f c).Moderate f :=
  .of_error (celsius_nearestEven f c) (celsius_error f c) (by norm_num) (by linarith [abs_tcExact_le c])
    (.inr (by linarith [le_abs_tcExact c.toNat]))

theorem ninefold_moderate : (ninefold f c).Moderate f := by
  have habs : |tcExact c.toNat * 9| = |tcExact c.toNat| * 9 := by rw [abs_mul, abs_of_pos (by norm_num : (0 : ℚ) < 9)]
  exact .of_error (ninefold_nearestEven f c) (ninefold_error f c) (by norm_num) (by linarith [abs_tcExact_le c])
    (.inr (by linarith [le_abs_tcExact c.toNat]))

theorem ninefoldFifth_moderate : (ninefoldFifth f c).Moderate f := by
  have habs : |tcExact c.toNat * 9 / 5| = |tcExact c.toNat| * 9 / 5 := by
    rw [mul_div_assoc, abs_mul, abs_of_pos (by norm_num : (0 : ℚ) < 9 / 5), mul_div_assoc]
  exact .of_error (ninefoldFifth_nearestEven f c) (ninefoldFifth_error f c) (by norm_num)
    (by linarith [abs_tcExact_le c]) (.inr (by linarith [le_abs_tcExact c.toNat]))

theorem fahrenheit_moderate : (fahrenheit f c).Moderate f :=
  .of_error (fahrenheit_nearestEven f c) (fahrenheit_error f c) (by norm_num) (by linarith [abs_tfExact_le c])
    (.inr (by linarith [le_abs_tfExact c.toNat]))

end

/-! ### Different codes have different results -/

/-- What increases with the code tells any two codes apart. -/
theorem code_eq_of_increasing {α : Type} [Preorder α] {g : Code → α} (hg : ∀ c d : Code, c.toNat < d.toNat → g c < g d)
    {c d : Code} (h : g c = g d) : c = d := by
  apply BitVec.eq_of_toNat_eq
  rcases Nat.lt_trichotomy c.toNat d.toNat with hlt | heq | hgt
  · exact absurd h (hg c d hlt).ne
  · exact heq
  · exact absurd h (hg d c hgt).ne'

theorem fbits_injective {f : FpFormat} {g : Code → Fp} (hmoderate : ∀ c, (g c).Moderate f)
    (hg : ∀ c d : Code, c.toNat < d.toNat → (g c).value < (g d).value) : Function.Injective fun c => fbits f (g c) :=
  fun c d h => code_eq_of_increasing hg ((hmoderate c).value_eq_of_fbits_eq (hmoderate d) h)

theorem fixedData_injective {g : Code → Int} (hrange : ∀ c, g c ∈ fixedRange)
    (hg : ∀ c d : Code, c.toNat < d.toNat → g c < g d) : Function.Injective fun c => fixedData (g c) := by
  intro c d h
  apply code_eq_of_increasing hg
  rw [← toInt_extractLsb'_lo_fixedData (hrange c), ← toInt_extractLsb'_lo_fixedData (hrange d)]
  exact congrArg _ (congrArg _ h)

/-- The `DATA` word of each of the six operations is injective in the code. -/
theorem conversion_data_injective (f : FpFormat) :
    ∀ i ∈ [Instr.cvtTc, Instr.cvtTf, Instr.cvtRh, Instr.cvtxTc, Instr.cvtxTf, Instr.cvtxRh],
      Function.Injective fun c => dataField (answerOf f (i c)) := by
  simp only [List.forall_mem_cons, List.not_mem_nil, false_imp_iff, implies_true, and_true, answerOf, dataField_append]
  exact ⟨fbits_injective (celsius_moderate f) fun _ _ => celsius_lt f,
    fbits_injective (fahrenheit_moderate f) fun _ _ => fahrenheit_lt f,
    fbits_injective (humidity_moderate f) fun _ _ => humidity_lt f,
    fixedData_injective celsiusFixed_mem_range fun _ _ => celsiusFixed_lt,
    fixedData_injective fahrenheitFixed_mem_range fun _ _ => fahrenheitFixed_lt,
    fixedData_injective humidityFixed_mem_range fun _ _ => humidityFixed_lt⟩

end Sys2Proof.Machine

open Sys2Proof Sys2Proof.Machine

/-- Settles O33: every value is a rounding close to an exact value that is zero or away from zero. -/
theorem noSpecialValueArises : Obligations.NoSpecialValueArises := by
  intro f c
  refine ⟨?_, ?_, ?_, ?_⟩
  · simp only [List.forall_mem_cons, List.not_mem_nil, false_imp_iff, implies_true, and_true]
    exact ⟨(codeFraction_moderate f c).normalOrPlusZero, (celsiusProduct_moderate f c).normalOrPlusZero,
      (celsius_moderate f c).normalOrPlusZero, (ninefold_moderate f c).normalOrPlusZero,
      (ninefoldFifth_moderate f c).normalOrPlusZero, (fahrenheit_moderate f c).normalOrPlusZero,
      (humidity_moderate f c).normalOrPlusZero⟩
  · exact (celsius_moderate f c).fbits_eq_zero_iff.not.mpr (celsius_ne_zero f c)
  · exact (fahrenheit_moderate f c).fbits_eq_zero_iff.not.mpr (fahrenheit_ne_zero f c)
  · rw [(humidity_moderate f c).fbits_eq_zero_iff, humidity_eq_zero_iff]

/-- Settles O27: the distance of two results is that of their exact values, but for errors too small to close it; and the
pattern of a result determines its value. -/
theorem conversionsAreStrictlyIncreasing : Obligations.ConversionsAreStrictlyIncreasing := by
  refine ⟨fun _ _ h => ⟨celsiusFixed_lt h, fahrenheitFixed_lt h, humidityFixed_lt h⟩,
    fun f _ _ h => ⟨celsius_lt f h, fahrenheit_lt f h, humidity_lt f h⟩, fun c d s hne i hi => ?_⟩
  have hdata := (conversion_data_injective s.params.fpfmt i hi).ne hne
  exact ⟨_, _, exec_eq (i c) s, exec_eq (i d) s, by simpa using hdata⟩

end

section
/-! SUPPORT. Results that are integers (43_unit_converter.md R116, R119 to R121, R130, R131). -/

namespace Sys2Proof.Machine

/-- The value is this integer: both brought to a common power of two. -/
def Fp.isInt (x : Fp) (n : Int) : Bool := x.mant * 2 ^ x.exp.toNat == n * 2 ^ (-x.exp).toNat

theorem Fp.value_eq_of_isInt {x : Fp} {n : Int} (h : x.isInt n = true) : x.value = n := by
  have hscaled : (x.mant : ℚ) * 2 ^ x.exp.toNat = n * 2 ^ (-x.exp).toNat := by exact_mod_cast eq_of_beq h
  have hexp : (2 : ℚ) ^ x.exp = 2 ^ x.exp.toNat / 2 ^ (-x.exp).toNat := by
    rw [← zpow_natCast, ← zpow_natCast, ← zpow_sub₀ two_ne_zero]
    congr 1
    omega
  rw [Fp.value, hexp, ← mul_div_assoc, hscaled, mul_div_cancel_right₀ _ (by positivity)]

/-- A row of the table of R116: a code and its three exact values. -/
structure IntegerCode where
  code : Code
  tc : Int
  tf : Int
  rh : Int

/-- The table of R116: the multiples of 0x3333. -/
def integerCodes : List IntegerCode :=
  [⟨0x0000#16, -45, -49, 0⟩, ⟨0x3333#16, -10, 14, 20⟩, ⟨0x6666#16, 25, 77, 40⟩, ⟨0x9999#16, 60, 140, 60⟩,
    ⟨0xCCCC#16, 95, 203, 80⟩, ⟨0xFFFF#16, 130, 266, 100⟩]

/-- The three operations give the values of a row. -/
def IntegerCode.computed (f : FpFormat) (x : IntegerCode) : Bool :=
  (celsius f x.code).isInt x.tc && (fahrenheit f x.code).isInt x.tf && (humidity f x.code).isInt x.rh

theorem integerCodes_computed_binary64 : ∀ x ∈ integerCodes, x.computed .binary64 = true := by decide +kernel

theorem integerCodes_computed_binary32 : ∀ x ∈ integerCodes, x.code ≠ 0x9999#16 → x.computed .binary32 = true := by
  decide +kernel

theorem integerCodes_computed {f : FpFormat} {x : IntegerCode} (hx : x ∈ integerCodes)
    (hf : f = .binary64 ∨ x.code ≠ 0x9999#16) :
    (celsius f x.code).value = x.tc ∧ (fahrenheit f x.code).value = x.tf ∧ (humidity f x.code).value = x.rh := by
  have hcomputed : x.computed f = true := by
    cases f with
    | binary64 => exact integerCodes_computed_binary64 x hx
    | binary32 => exact integerCodes_computed_binary32 x hx (hf.resolve_left nofun)
  simp only [IntegerCode.computed, Bool.and_eq_true] at hcomputed
  obtain ⟨⟨htc, htf⟩, hrh⟩ := hcomputed
  exact ⟨Fp.value_eq_of_isInt htc, Fp.value_eq_of_isInt htf, Fp.value_eq_of_isInt hrh⟩

theorem integerCodes_exact : ∀ x ∈ integerCodes,
    tcExact x.code.toNat = x.tc ∧ tfExact x.code.toNat = x.tf ∧ rhExact x.code.toNat = x.rh := by
  norm_num [integerCodes, tcExact, tfExact, rhExact]

theorem values_first_code (f : FpFormat) : (celsius f 0x0000#16).value = -45 ∧ (fahrenheit f 0x0000#16).value = -49 ∧
    (humidity f 0x0000#16).value = 0 := by
  exact_mod_cast integerCodes_computed (f := f) (x := ⟨0x0000#16, -45, -49, 0⟩) (.head _) (.inr (by decide))

theorem values_last_code (f : FpFormat) : (celsius f 0xFFFF#16).value = 130 ∧ (fahrenheit f 0xFFFF#16).value = 266 ∧
    (humidity f 0xFFFF#16).value = 100 := by
  have hrow : (⟨0xFFFF#16, 130, 266, 100⟩ : IntegerCode) ∈ integerCodes := by simp [integerCodes]
  exact_mod_cast integerCodes_computed (f := f) hrow (.inr (by decide))

/-- 65535/65535 is exactly 1. -/
theorem codeFraction_last_code (f : FpFormat) : (codeFraction f 0xFFFF#16).value = 1 := by
  have h := codeFraction_nearestEven f 0xFFFF#16
  rw [show ((0xFFFF#16 : Code).toNat : ℚ) / 65535 = (1 : Int) by norm_num] at h
  exact_mod_cast h.value_eq (representable_intCast (by decide))

theorem celsiusProduct_last_code (f : FpFormat) : (celsiusProduct f 0xFFFF#16).value = 175 := by
  have h := celsiusProduct_nearestEven f 0xFFFF#16
  rw [codeFraction_last_code, show (175 : ℚ) * 1 = (175 : Int) by norm_num] at h
  exact_mod_cast h.value_eq (representable_intCast (by decide))

end Sys2Proof.Machine

open Sys2Proof Sys2Proof.Machine

/-- Settles O28: the first and the last row of the table. -/
theorem converterEndPointsAreExact : Obligations.ConverterEndPointsAreExact := by
  intro f
  obtain ⟨htc0, _, hrh0⟩ := values_first_code f
  obtain ⟨htc1, _, hrh1⟩ := values_last_code f
  exact ⟨htc0, htc1, hrh0, hrh1⟩

/-- Settles O29: the table row by row, by computation in both formats. -/
theorem integerValuedCodesTellTheFormatsApart : Obligations.IntegerValuedCodesTellTheFormatsApart := by
  refine ⟨fun x hx => ?table, by decide +kernel, by decide +kernel, by decide +kernel⟩
  case table =>
    obtain ⟨y, hy, rfl⟩ : ∃ y ∈ integerCodes, ((y.code, (y.tc, y.tf, y.rh)) : Code × ℚ × ℚ × ℚ) = x := by
      rw [← List.mem_map]
      simpa [integerCodes] using hx
    obtain ⟨htc, htf, hrh⟩ := integerCodes_exact y hy
    exact ⟨htc, htf, hrh, fun f hf => integerCodes_computed hy hf⟩

/-- Settles O22: the meaning is the formula, written out; the end points, the signs and both examples. -/
theorem cvtTcRespondsWithTheFormula : Obligations.CvtTcRespondsWithTheFormula := by
  refine ⟨fun _ _ => rfl, formatR_cvtTc, fun f => ?_, celsius_sign, by decide +kernel, by decide +kernel⟩
  obtain ⟨htc0, _⟩ := values_first_code f
  obtain ⟨htc1, _⟩ := values_last_code f
  exact ⟨htc0, htc1, (codeFraction_moderate f _).fbits_eq_zero_iff.mpr (codeFraction_zero f),
    (celsiusProduct_moderate f _).fbits_eq_zero_iff.mpr (celsiusProduct_zero f),
    codeFraction_last_code f, celsiusProduct_last_code f⟩

/-- Settles O23: the meaning is the formula, written out left to right; the end points, the signs and the examples. -/
theorem cvtTfRespondsWithTheFormula : Obligations.CvtTfRespondsWithTheFormula := by
  refine ⟨fun _ _ => rfl, formatR_cvtTf, fun f => ?_, fahrenheit_sign, by decide +kernel, by decide +kernel,
    by decide +kernel, by decide +kernel⟩
  obtain ⟨_, htf0, _⟩ := values_first_code f
  obtain ⟨_, htf1, _⟩ := values_last_code f
  exact ⟨htf0, htf1⟩

/-- Settles O24: the meaning is the formula, written out; only code 0 gives zero, and both examples. -/
theorem cvtRhRespondsWithTheFormula : Obligations.CvtRhRespondsWithTheFormula := by
  refine ⟨fun _ _ => rfl, formatR_cvtRh, fun f => ?_, humidity_eq_zero_iff, by decide +kernel, by decide +kernel⟩
  obtain ⟨_, _, hrh1⟩ := values_last_code f
  exact ⟨(humidity_moderate f _).fbits_eq_zero_iff.mpr (humidity_zero f), hrh1⟩

end

section
/-! SUPPORT. Cycles in which a Transport call fails or the bytes are not six (44_session_orchestrator.md R157, 60_exceptions.md
R179): the lines of the failures, and the stretches they make. -/

namespace Sys2Proof.Machine

/-! ### The lines of the failures -/

section
variable (p : Params) (x : EnvAnswer)

theorem leads_reportPupFail : Leads p [x] .reportPupFail (.rest false) [.reported .transportError] [] :=
  .event fun s hs _ => by simp [hostStep, hs, report]

theorem leads_reportMeasFail : Leads p [x] .reportMeasFail .askPdn [.reported .transportError] [] :=
  .event fun s hs _ => by simp [hostStep, hs, report]

theorem leads_reportPdnFail : Leads p [x] .reportPdnFail (.rest true) [.reported .transportError] [] :=
  .event fun s hs _ => by simp [hostStep, hs, report]

/-- Bytes that have no DECODE request are reported, and CVC is asked nothing (R179). -/
theorem leads_decodeError {bytes : List Byte} (h : frameRequest bytes = none) :
    Leads p [x] (.haveBytes bytes) .askPdn [.reported .decodeError] [] :=
  .event fun s hs _ => by simp [hostStep, hs, h, report]

end

/-- Only six bytes have a DECODE request (R106). -/
theorem frameRequest_eq_none {bytes : List Byte} (h : bytes.length ≠ 6) : frameRequest bytes = none := by
  cases hreq : frameRequest bytes with
  | none => rfl
  | some i =>
    obtain ⟨b0, b1, b2, b3, b4, b5, rfl, _⟩ := frameRequest_eq_some hreq
    exact absurd rfl h

/-! ### The stretches they make -/

section
variable (p : Params)

/-- A cycle whose PowerUp write fails (R157 row 1). -/
theorem leads_failedPowerUp (x1 x2 x3 x4 : EnvAnswer) (h2 : x2.ok = false) :
    Leads p [x1, x2, x3, x4] .askPup .askPup
      [.wrote busAddress (wireBytes powerUpWord) p.timeout false, .reported .transportError, .slept p.cycleDelay]
      (x1.frameRequests .encPup) := by
  have hsend := leads_sendPup p x2 powerUpWord
  rw [h2] at hsend
  have h := (leads_askPup p x1).trans <| hsend.trans <| (leads_reportPupFail p x3).trans <| leads_rest p x4 false
  simpa using h

/-- From the PowerDown line to the next cycle, if the write fails (R157 row 3). -/
theorem leads_failedPowerDown (x1 x2 x3 x4 : EnvAnswer) (h2 : x2.ok = false) :
    Leads p [x1, x2, x3, x4] .askPdn .askPup
      [.wrote busAddress (wireBytes powerDownWord) p.timeout false, .reported .transportError, .slept p.cycleDelay]
      (x1.frameRequests .encPdn) := by
  have hsend := leads_sendPdn p x2 powerDownWord
  rw [h2] at hsend
  have h := (leads_askPdn p x1).trans <| hsend.trans <| (leads_reportPdnFail p x3).trans <| leads_rest p x4 true
  simpa using h

/-- From the beginning of a cycle to the PowerDown line, if the Measure call fails (R157 row 2). -/
theorem leads_failedMeasure (x1 x2 x3 x4 x5 x6 : EnvAnswer) (h2 : x2.ok = true) (h5 : x5.ok = false) :
    Leads p [x1, x2, x3, x4, x5, x6] .askPup .askPdn
      [.wrote busAddress (wireBytes powerUpWord) p.timeout true, .slept (p.settleMin + x3.extra),
        .wroteRead busAddress (wireBytes measureWord) frameLen p.timeout none, .reported .transportError]
      (x1.frameRequests .encPup ++ x4.frameRequests .encMeas) := by
  have hsendPup := leads_sendPup p x2 powerUpWord
  have hsendMeas := leads_sendMeas p x5 measureWord
  rw [h2] at hsendPup
  rw [h5] at hsendMeas
  have h := (leads_askPup p x1).trans <| hsendPup.trans <| (leads_settle p x3).trans <| (leads_askMeas p x4).trans <|
    hsendMeas.trans <| leads_reportMeasFail p x6
  simpa using h

/-- From the PowerDown line through its write, with either outcome (R153, R157). -/
theorem leads_toPowerDown (x y : EnvAnswer) :
    Leads p [x, y] .askPdn (if y.ok then .rest true else .reportPdnFail)
      [.wrote busAddress (wireBytes powerDownWord) p.timeout y.ok] (x.frameRequests .encPdn) := by
  simpa using (leads_askPdn p x).trans (leads_sendPdn p y powerDownWord)

end

end Sys2Proof.Machine

open Sys2Proof Sys2Proof.Machine

/-- Settles O46: the stretch to the PowerDown line, with the report of the failure or of the bytes' length, and the PowerDown
write. -/
theorem failedMeasureStillPowersDown : Obligations.FailedMeasureStillPowersDown := by
  constructor
  · intro s rest x1 x2 x3 x4 x5 x6 x7 x8 x9 hidle hpoint hinputs h2 h5
    have hlines := (leads_failedMeasure s.params x1 x2 x3 x4 x5 x6 h2 h5).trans (leads_toPowerDown s.params x7 x8)
    obtain ⟨t, hrun, tinputs, hpassed⟩ := hlines s (.host x9 :: rest) hidle hpoint hinputs rfl
    exact ⟨t, hrun, tinputs, hpassed.params, hpassed.point, hpassed.trace, hpassed.responses⟩
  · intro s rest x1 x2 x3 x4 x5 x6 x7 x8 x9 hidle hpoint hinputs h2 h5 hlength
    have hlines := (leads_toBytes s.params x1 x2 x3 x4 x5 h2 h5).trans <|
      (leads_decodeError s.params x6 (frameRequest_eq_none hlength)).trans <| leads_toPowerDown s.params x7 x8
    obtain ⟨t, hrun, tinputs, hpassed⟩ := hlines s (.host x9 :: rest) hidle hpoint hinputs rfl
    exact ⟨t, hrun, tinputs, hpassed.params, hpassed.point, hpassed.trace, hpassed.responses⟩

/-- Settles O45: the stretch of a failed PowerUp write is the whole cycle. -/
theorem failedPowerUpSendsNothingMore : Obligations.FailedPowerUpSendsNothingMore := by
  intro s rest x1 x2 x3 x4 hidle hpoint hinputs h2
  obtain ⟨t, hrun, tinputs, hpassed⟩ :=
    leads_failedPowerUp s.params x1 x2 x3 x4 h2 s rest hidle hpoint hinputs rfl
  exact ⟨t, hrun, hpassed.point, hpassed.idle, tinputs, hpassed.params, hpassed.trace, hpassed.responses⟩

/-- Settles O47: the stretch of a failed PowerDown write has one write in it. -/
theorem failedPowerDownIsReportedNotRetried : Obligations.FailedPowerDownIsReportedNotRetried := by
  intro s rest x1 x2 x3 x4 hidle hpoint hinputs h2
  obtain ⟨t, hrun, tinputs, hpassed⟩ :=
    leads_failedPowerDown s.params x1 x2 x3 x4 h2 s rest hidle hpoint hinputs rfl
  exact ⟨t, hrun, hpassed.point, hpassed.idle, tinputs, hpassed.params, hpassed.trace, hpassed.responses⟩

end

section
/-! SUPPORT. What the trace of cycles counts up to (44_session_orchestrator.md R149, R157, R158; 60_exceptions.md R190): each
phase of a cycle has a PowerDown attempt and a report due or not, and each event settles what it ought to. -/

namespace Sys2Proof.Machine

/-! ### What is due in each phase -/

/-- PowerDown attempts the cycle still owes (R158). -/
def Phase.powerDownsDue : Phase → Nat
  | .poweredUp | .settled | .measureFailed | .measured _ | .powerDownDue => 1
  | .ready | .powerUpFailed | .powerDownFailed | .resting => 0

/-- Reports the cycle still owes (R149, R157). -/
def Phase.reportsDue : Phase → Nat
  | .powerUpFailed | .poweredUp | .settled | .measureFailed | .measured _ | .powerDownFailed => 1
  | .ready | .powerDownDue | .resting => 0

/-- The Measure call of the cycle was made, and no PowerDown attempted since (R158). -/
def Phase.afterMeasure : Phase → Bool
  | .measureFailed | .measured _ | .powerDownDue => true
  | .ready | .powerUpFailed | .poweredUp | .settled | .powerDownFailed | .resting => false

theorem Phase.powerDownsDue_le_one (ph : Phase) : ph.powerDownsDue ≤ 1 := by
  cases ph <;> simp [powerDownsDue]

/-- A line of the program owes what the phase it agrees with owes. -/
theorem Point.Agrees.due {p : Params} {pt : Point} {ph : Phase} (h : pt.Agrees p ph) :
    (if pt.owesPowerDown then 1 else 0) = ph.powerDownsDue ∧ pt.reportsDue = ph.reportsDue := by
  cases pt with
  | askPup | reportPupFail | settle | askMeas | reportMeasFail | haveBytes | askPdn | reportPdnFail | rest =>
    obtain rfl := h
    exact ⟨rfl, rfl⟩
  | sendPup | sendMeas | sendPdn =>
    obtain ⟨rfl, _⟩ := h
    exact ⟨rfl, rfl⟩
  | reportChecksum | convert | reportReading =>
    obtain ⟨_, rfl, _⟩ := h
    exact ⟨rfl, rfl⟩
  | askHumid | askTemp =>
    obtain ⟨_, _, rfl, _⟩ := h
    exact ⟨rfl, rfl⟩

/-! ### What one event settles -/

namespace Phase.Moves

variable {p : Params} {ph ph' : Phase} {e : HostEvent} (m : Phase.Moves p ph e ph')
include m

/-- A successful PowerUp write incurs a PowerDown attempt, and an attempt settles one. -/
theorem powerDownsDue : [e].countP HostEvent.powersUp + ph.powerDownsDue
    = [e].countP HostEvent.attemptsPowerDown + ph'.powerDownsDue := by
  cases m <;> rfl

/-- The beginning of a cycle and a failed PowerDown write each incur a report, and a report settles one. -/
theorem reportsDue : [e].countP HostEvent.beginsCycle + [e].countP HostEvent.failsPowerDown + ph.reportsDue
    = [e].countP HostEvent.isReport + ph'.reportsDue := by
  cases m <;> rfl

theorem afterMeasure_of_attemptsPowerDown (h : e.attemptsPowerDown = true) : ph.afterMeasure = true := by
  cases m with
  | powerDown | powerDownFails => rfl
  | _ => simp [HostEvent.attemptsPowerDown] at h

/-- A phase after the Measure call is reached by the call, or from such a phase by an event that is no power write. -/
theorem of_afterMeasure (h : ph'.afterMeasure = true) :
    (∃ a c n d r, e = .wroteRead a c n d r) ∨
    (ph.afterMeasure = true ∧ e.powersUp = false ∧ e.attemptsPowerDown = false) := by
  cases m with
  | measure | measureFails => exact .inl ⟨_, _, _, _, _, rfl⟩
  | reportMeasureFailure | reportOutcome => exact .inr ⟨rfl, rfl, rfl⟩
  | _ => simp [Phase.afterMeasure] at h

end Phase.Moves

/-! ### What the whole trace adds up to -/

/-- The trace holds a Measure call that neither a successful PowerUp write nor a PowerDown attempt follows. -/
def MeasuredSincePowerWrite (l : List HostEvent) : Prop :=
  ∃ (before since : List HostEvent) (a : Byte) (c : List Byte) (n : Nat) (d : Duration) (r : Option (List Byte)),
    l = before ++ .wroteRead a c n d r :: since ∧ ∀ x ∈ since, x.powersUp = false ∧ x.attemptsPowerDown = false

theorem MeasuredSincePowerWrite.snoc {l : List HostEvent} (h : MeasuredSincePowerWrite l) {e : HostEvent}
    (hup : e.powersUp = false) (hdown : e.attemptsPowerDown = false) : MeasuredSincePowerWrite (l ++ [e]) := by
  obtain ⟨before, since, a, c, n, d, r, rfl, hsince⟩ := h
  refine ⟨before, since ++ [e], a, c, n, d, r, by simp, ?_⟩
  exact List.forall_mem_append.mpr ⟨hsince, List.forall_mem_singleton.mpr ⟨hup, hdown⟩⟩

namespace CycleTrace

variable {p : Params} {l : List HostEvent} {ph : Phase}

/-- What was observed before is itself a trace of cycles. -/
theorem of_prefix (h : CycleTrace p l ph) {l' : List HostEvent} (hl : l' <+: l) : ∃ ph', CycleTrace p l' ph' := by
  induction h with
  | start => exact ⟨.ready, List.prefix_nil.mp hl ▸ .start⟩
  | snoc h m ih =>
    rcases List.prefix_concat_iff.mp hl with rfl | hl
    · exact ⟨_, h.snoc m⟩
    · exact ih hl

/-- The last event moved the cycle on. -/
theorem last_moves {e : HostEvent} (h : CycleTrace p (l ++ [e]) ph) :
    ∃ ph', CycleTrace p l ph' ∧ Phase.Moves p ph' e ph := by
  generalize hl : l ++ [e] = l' at h
  cases h with
  | start => simp at hl
  | snoc h m =>
    obtain ⟨rfl, he⟩ := List.append_inj' hl rfl
    obtain rfl := List.singleton_inj.mp he
    exact ⟨_, h, m⟩

theorem powerDowns (h : CycleTrace p l ph) :
    l.countP HostEvent.powersUp = l.countP HostEvent.attemptsPowerDown + ph.powerDownsDue := by
  induction h with
  | start => rfl
  | snoc h m ih =>
    have hevent := m.powerDownsDue
    rw [List.countP_append, List.countP_append]
    omega

theorem reports (h : CycleTrace p l ph) :
    l.countP HostEvent.isReport + ph.reportsDue
      = l.countP HostEvent.beginsCycle + l.countP HostEvent.failsPowerDown := by
  induction h with
  | start => rfl
  | snoc h m ih =>
    have hevent := m.reportsDue
    rw [List.countP_append, List.countP_append, List.countP_append]
    omega

theorem measuredSincePowerWrite (h : CycleTrace p l ph) (hph : ph.afterMeasure = true) :
    MeasuredSincePowerWrite l := by
  induction h with
  | start => simp [Phase.afterMeasure] at hph
  | snoc h m ih =>
    rcases m.of_afterMeasure hph with ⟨a, c, n, d, r, rfl⟩ | ⟨hbefore, hup, hdown⟩
    · exact ⟨_, [], a, c, n, d, r, rfl, nofun⟩
    · exact (ih hbefore).snoc hup hdown

end CycleTrace

end Sys2Proof.Machine

open Sys2Proof Sys2Proof.Machine

/-- Settles O48: every beginning of the trace is a trace of cycles, in which PowerUp writes and PowerDown attempts balance but
for the attempt that is due, and only a phase after the Measure call has an attempt next. -/
theorem powerDownIsAttemptedExactlyOnce : Obligations.PowerDownIsAttemptedExactlyOnce := by
  intro s hinv
  obtain ⟨ph, htrace, hagrees⟩ := hinv.cycle
  refine ⟨?balance, ?prefixes, ?order⟩
  case balance =>
    rw [hagrees.due.1]
    exact htrace.powerDowns
  case prefixes =>
    intro l hl
    obtain ⟨ph', htrace'⟩ := htrace.of_prefix hl
    have hbalance := htrace'.powerDowns
    have hdue := ph'.powerDownsDue_le_one
    omega
  case order =>
    intro l e hl hattempt
    obtain ⟨_, htrace'⟩ := htrace.of_prefix hl
    obtain ⟨_, hbefore, hmoves⟩ := htrace'.last_moves
    exact hbefore.measuredSincePowerWrite (hmoves.afterMeasure_of_attemptsPowerDown hattempt)

/-- Settles O49: reports balance the outcomes of the trace but for what the phase owes, and the line owes the same. -/
theorem everyOutcomeIsReportedOnce : Obligations.EveryOutcomeIsReportedOnce := by
  intro s hinv
  obtain ⟨ph, htrace, hagrees⟩ := hinv.cycle
  rw [hagrees.due.2]
  exact htrace.reports

end

section
/-! SUPPORT. The named state of the Orchestrator (44_session_orchestrator.md R150 to R154, R157; log 14): which events a step
can add to the trace in each named state, and where they lead. -/

namespace Sys2Proof.Machine

/-- An event that a step adds in the first named state and after which the machine is in the second: one that moves it along
its cycle, or one of those that leave it. -/
inductive OrchState.Sees (p : Params) : OrchState → HostEvent → OrchState → Prop where
  | moves {o o' : OrchState} {e : HostEvent} (m : OrchState.Moves p o e o') : Sees p o e o'
  | powerUpFails : Sees p .idle (.wrote 0x70#8 [0x35#8, 0x17#8] p.timeout false) .idle
  | settle (d : Duration) : Sees p .poweredUp (.slept d) .poweredUp
  | report (o : OrchState) (r : Report) : Sees p o (.reported r) o
  | restAfterFailure : Sees p .idle (.slept p.cycleDelay) .idle

/-- From `s` to `t` nothing is observed and the named state stays, or one event is, which the named state follows. -/
inductive State.Observes (s t : State) : Prop where
  | silent (htrace : t.trace = s.trace) (hstate : t.point.orchState = s.point.orchState)
  | event (e : HostEvent) (htrace : t.trace = s.trace ++ [e])
      (hsees : OrchState.Sees s.params s.point.orchState e t.point.orchState)

namespace OrchState.Sees

variable {p : Params} {o o' : OrchState} {e : HostEvent} (h : OrchState.Sees p o e o')
include h

theorem stays_or_moves : o' = o ∨ OrchState.Moves p o e o' := by
  cases h with
  | moves m => exact .inr m
  | powerUpFails | settle | report | restAfterFailure => exact .inl rfl

/-- No event that leaves the named state would move it. -/
theorem eq_of_moves {o'' : OrchState} (m : OrchState.Moves p o e o'') : o' = o'' := by
  cases h with
  | moves m' => cases m <;> cases m' <;> rfl
  | powerUpFails | settle | report | restAfterFailure => cases m

theorem idle_of_failed_powerUp (he : e = .wrote 0x70#8 [0x35#8, 0x17#8] p.timeout false) : o = .idle ∧ o' = .idle := by
  cases h with
  | powerUpFails => exact ⟨rfl, rfl⟩
  | moves m => cases m <;> simp at he
  | settle | report | restAfterFailure => cases he

end OrchState.Sees

namespace State.Observes

variable {s : State}

theorem cvc (i : Instr) (next : Byte → Data → Point) (h : ∀ st d, (next st d).orchState = s.point.orchState) :
    ∃ t, Machine.cvc i s next = .next t ∧ s.Observes t :=
  ⟨_, cvc_eq i s next, .silent rfl (h _ _)⟩

theorem obtainFrame (i : Instr) (word : Code) (a : EnvAnswer) (next : Code → Point)
    (h : ∀ cmd, (next cmd).orchState = s.point.orchState) :
    ∃ t, Machine.obtainFrame i word a s next = .next t ∧ s.Observes t := by
  rcases obtainFrame_cases i word a s next with ⟨_, e⟩ | ⟨_, e⟩
  · exact ⟨_, e, .silent rfl (h word)⟩
  · rw [e]
    exact cvc i _ fun _ _ => h _

/-- The Orchestrator is not touched by a clock edge, reset or not (R202). -/
theorem clockEdge (p : Pins) : ∃ t, Machine.clockEdge p s = .next t ∧ s.Observes t := by
  rcases clockEdge_cases p s with ⟨_, e⟩ | ⟨_, e⟩ | ⟨_, _, _, _, e⟩ | ⟨_, _, _, _, e⟩ | ⟨_, _, _, _, e⟩ |
    ⟨_, _, _, _, e⟩ | ⟨_, _, _, e⟩
  · exact ⟨_, e, .silent rfl rfl⟩
  · exact ⟨_, e, .silent rfl rfl⟩
  · exact ⟨_, e, .silent rfl rfl⟩
  · exact ⟨_, e.trans (complete_eq s), .silent rfl rfl⟩
  · exact ⟨_, e, .silent rfl rfl⟩
  · exact ⟨_, e.trans (complete_eq _), .silent rfl rfl⟩
  · exact ⟨_, e, .silent rfl rfl⟩

/-- Going on to `q` after the event `e`, from a line `pt`. -/
theorem log_goto {pt q : Point} {e : HostEvent} (hp : s.point = pt)
    (h : OrchState.Sees s.params pt.orchState e q.orchState) : s.Observes ((s.log e).goto q) :=
  .event e rfl (hp ▸ h)

/-- Every line of the Orchestrator (R165), by the line: the three command words are known from the invariant. -/
theorem hostStep (hinv : s.Inv) (a : EnvAnswer) : ∃ t, Machine.hostStep a s = .next t ∧ s.Observes t := by
  obtain ⟨ph, -, hagrees⟩ := hinv.cycle
  unfold Machine.hostStep
  cases hp : s.point with rw [hp] at hagrees
  | askPup | askMeas | askPdn => exact obtainFrame _ _ a _ fun _ => hp ▸ rfl
  | sendPup cmd =>
    obtain ⟨-, rfl⟩ := hagrees
    refine ⟨_, rfl, log_goto hp ?_⟩
    cases a.ok with
    | true => exact .moves .powerUp
    | false => exact .powerUpFails
  | sendMeas cmd =>
    obtain ⟨-, rfl⟩ := hagrees
    refine ⟨_, rfl, log_goto hp ?_⟩
    cases a.ok with
    | true => exact .moves (.measure (some a.bytes))
    | false => exact .moves (.measure none)
  | sendPdn cmd =>
    obtain ⟨-, rfl⟩ := hagrees
    refine ⟨_, rfl, log_goto hp ?_⟩
    cases a.ok with
    | true => exact .moves (.powerDown true)
    | false => exact .moves (.powerDown false)
  | settle => exact ⟨_, rfl, log_goto hp (.settle _)⟩
  | haveBytes bytes =>
    dsimp only
    split
    · exact ⟨_, rfl, log_goto hp (.report _ _)⟩
    · refine cvc _ _ fun st d => ?_
      rw [hp]
      split
      · rfl
      · rfl
  | convert rawTemp rawHumid =>
    dsimp only
    split
    · exact cvc _ _ fun _ _ => hp ▸ rfl
    · exact cvc _ _ fun _ _ => hp ▸ rfl
  | askHumid | askTemp => exact cvc _ _ fun _ _ => hp ▸ rfl
  | reportPupFail | reportMeasFail | reportChecksum | reportReading | reportPdnFail =>
    exact ⟨_, rfl, log_goto hp (.report _ _)⟩
  | rest powerUpOk =>
    refine ⟨_, rfl, log_goto hp ?_⟩
    cases powerUpOk with
    | true => exact .moves .rest
    | false => exact .restAfterFailure

/-- Which inputs are left makes no difference. -/
theorem of_withInputs {l : List Input} {t : State} (h : (s.withInputs l).Observes t) : s.Observes t := by
  cases h with
  | silent htrace hstate => exact .silent htrace hstate
  | event e htrace hsees => exact .event e htrace hsees

/-- Every step of every agent from a state that meets the invariant. -/
theorem step (hinv : s.Inv) : ∃ t, Machine.step s = .next t ∧ s.Observes t := by
  cases hin : s.inputs with
  | nil => exact ⟨s, step_of_no_input hin, .silent rfl rfl⟩
  | cons x rest =>
    cases x with
    | request w =>
      rw [step_of_request hin]
      split
      · exact ⟨_, rfl, .silent rfl rfl⟩
      · exact clockEdge waitPins
    | edge p =>
      rw [step_of_edge hin]
      obtain ⟨t, hedge, hobserves⟩ := clockEdge (s := s.withInputs rest) p
      exact ⟨t, hedge, hobserves.of_withInputs⟩
    | host a =>
      rw [step_of_host hin]
      split
      · obtain ⟨t, hline, hobserves⟩ := hostStep (hinv.withInputs rest) a
        exact ⟨t, hline, hobserves.of_withInputs⟩
      · exact clockEdge waitPins

end State.Observes

/-- The PowerUp write of the cycle has succeeded exactly when the Orchestrator is out of Idle (R21, R157). -/
theorem Point.powerUpOk_iff (pt : Point) : pt.powerUpOk = true ↔ pt.orchState ≠ .idle := by
  cases pt with
  | rest powerUpOk => cases powerUpOk <;> decide
  | _ => simp [Point.powerUpOk, Point.orchState]

end Sys2Proof.Machine

open Sys2Proof Sys2Proof.Machine

/-- Settles O50: a step is silent or adds one event, and the named state follows each event in one way only. -/
theorem orchestratorMovesAlongItsCycle : Obligations.OrchestratorMovesAlongItsCycle := by
  refine ⟨fun s t hinv hstep => ?_, Point.powerUpOk_iff⟩
  obtain ⟨u, hstep', hobserves⟩ := State.Observes.step hinv
  obtain rfl : u = t := by simpa [hstep'] using hstep
  cases hobserves with
  | silent htrace hstate =>
    have hnone : ∀ e, u.trace ≠ s.trace ++ [e] := by simp [htrace]
    exact ⟨.inl hstate, fun e _ he => absurd he (hnone e), fun he => absurd he (hnone _)⟩
  | event e htrace hsees =>
    have hone : ∀ e', u.trace = s.trace ++ [e'] → e = e' := by simp [htrace]
    refine ⟨hsees.stays_or_moves.imp_right fun m => ⟨e, htrace, m⟩, ?_,
      fun he => hsees.idle_of_failed_powerUp (hone _ he)⟩
    intro e' o he m
    exact hsees.eq_of_moves (hone e' he ▸ m)

end

section
/-! SUPPORT. Runs of requests, the wait of a request for CVC, and what a clock edge leaves of the Orchestrator
(70_reset_and_hazards.md R200, R202, R206, R212). -/

namespace Sys2Proof.Machine

/-- A run's first step, split off. -/
theorem run_succ {s t : State} (h : step s = .next t) (k : Nat) :
    Sys2Proof.core.run (k + 1) s = Sys2Proof.core.run k t := by
  rw [Nat.add_comm, run_add (run_one h)]

/-- While CVC is not idle, a request that comes first waits for it (R206; log 18). -/
theorem step_of_waiting_request {s : State} {w : ReqWord} {rest : List Input} (h : s.inputs = .request w :: rest)
    (hidle : s.idle = false) : step s = clockEdge waitPins s := by
  simp [step_of_request h, hidle, waitOut]

/-- A busy CVC is not idle. -/
theorem State.idle_of_busy {s : State} (hb : s.busy = true) : s.idle = false := by
  simp [State.idle, hb]

/-- `rst` takes precedence over everything (R181). -/
theorem clockEdge_reset {p : Pins} (hrst : p.rst = true) (s : State) : clockEdge p s = .next s.resetEdge := by
  simp [clockEdge, hrst]

/-- No clock edge, a reset included, moves the Orchestrator (R202). -/
theorem clockEdge_keeps_orchestrator (p : Pins) (s : State) :
    ∃ t : State, clockEdge p s = .next t ∧ t.point = s.point ∧ t.trace = s.trace := by
  rcases clockEdge_cases p s with ⟨_, e⟩ | ⟨_, e⟩ | ⟨_, _, _, _, e⟩ | ⟨_, _, _, _, e⟩ | ⟨_, _, _, _, e⟩ |
    ⟨_, _, _, _, e⟩ | ⟨_, _, _, e⟩
  · exact ⟨s.resetEdge, e, rfl, rfl⟩
  · exact ⟨s, e, rfl, rfl⟩
  · exact ⟨s.deliver, e, rfl, rfl⟩
  · exact ⟨s.completed, e.trans (complete_eq s), rfl, rfl⟩
  · exact ⟨s.accept p.req, e, rfl, rfl⟩
  · exact ⟨(s.accept p.req).completed, e.trans (complete_eq _), rfl, rfl⟩
  · exact ⟨s.raiseReady, e, rfl, rfl⟩

/-- Requests, clock edges and resets leave the Orchestrator to its own inputs (R26). -/
theorem step_keeps_orchestrator {s : State} (h : ∀ (x : EnvAnswer) (rest : List Input), s.inputs ≠ .host x :: rest) :
    ∃ t : State, step s = .next t ∧ t.point = s.point ∧ t.trace = s.trace := by
  cases hin : s.inputs with
  | nil => exact ⟨s, step_of_no_input hin, rfl, rfl⟩
  | cons x rest =>
    cases x with
    | request w =>
      cases hidle : s.idle with
      | true => exact ⟨(s.withInputs rest).transacted w, by rw [step_of_request hin, if_pos hidle], rfl, rfl⟩
      | false =>
        rw [step_of_waiting_request hin hidle]
        exact clockEdge_keeps_orchestrator waitPins s
    | edge p =>
      rw [step_of_edge hin]
      exact clockEdge_keeps_orchestrator p (s.withInputs rest)
    | host a => exact absurd hin (h a rest)

end Sys2Proof.Machine

open Sys2Proof Sys2Proof.Machine

/-- Settles O36, by induction on the requests: each is its transaction, which leaves CVC idle for the next. -/
theorem runIsTheElementwiseImageOfItsRequests : Obligations.RunIsTheElementwiseImageOfItsRequests := by
  intro ws
  induction ws with
  | nil =>
    intro rest s hidle hin
    exact ⟨s, rfl, by simp, hidle, by simpa using hin, rfl, rfl, rfl, rfl⟩
  | cons w ws ih =>
    intro rest s hidle hin
    have hfirst : s.inputs = .request w :: (ws.map .request ++ rest) := hin
    have hstep : step s = .next ((s.withInputs (ws.map .request ++ rest)).transacted w) := by
      rw [step_of_request hfirst, if_pos hidle]
    obtain ⟨t, hrun, hresponses, hrest⟩ :=
      ih rest ((s.withInputs (ws.map .request ++ rest)).transacted w) (State.transacted_idle w _) rfl
    exact ⟨t, (run_succ hstep ws.length).trans hrun, by simpa using hresponses, hrest⟩

/-- Settles O41: the reset edge, the edge that makes CVC ready, and the transaction of the request issued then. -/
theorem resetAbandonsTheOperation : Obligations.ResetAbandonsTheOperation := by
  intro s p q w hp hq
  have hreset : clockEdge p s = .next s.resetEdge := clockEdge_reset hp s
  have hready : clockEdge q s.resetEdge = .next s.resetEdge.raiseReady := clockEdge_raiseReady hq rfl rfl
  exact ⟨_, _, _, hreset, hready, transact_eq w _, rfl, rfl, rfl, rfl, rfl, rfl, rfl, rfl, rfl, rfl, rfl,
    State.transacted_responses w _⟩

/-- Settles O42, by where CVC is: computing takes an edge to finish and one to deliver, holding a response one to deliver, and
being just out of reset one to become ready. -/
theorem waitingForCvcEnds : Obligations.WaitingForCvcEnds := by
  intro s w rest hin
  cases hb : s.busy with
  | true =>
    have hwait : step s = clockEdge waitPins s := step_of_waiting_request hin (State.idle_of_busy hb)
    cases hv : s.rspValid with
    | true =>
      have hdeliver : step s = .next s.deliver := hwait.trans (clockEdge_deliver rfl hb hv rfl)
      exact ⟨1, s.deliver, by decide, run_one hdeliver, rfl, rfl, rfl, rfl, rfl⟩
    | false =>
      have hfinish : step s = .next s.completed := hwait.trans (clockEdge_finish rfl hb hv rfl)
      have hdeliver : step s.completed = .next s.completed.deliver :=
        (step_of_waiting_request (s := s.completed) hin (State.idle_of_busy hb)).trans (clockEdge_deliver rfl hb rfl rfl)
      exact ⟨2, s.completed.deliver, by decide, (run_succ hfinish 1).trans (run_one hdeliver), rfl, rfl, rfl, rfl, rfl⟩
  | false =>
    cases hr : s.reqReady with
    | true => exact ⟨0, s, by decide, rfl, (State.idle_iff s).mpr ⟨hr, hb⟩, rfl, rfl, rfl, rfl⟩
    | false =>
      have hidle : s.idle = false := by simp [State.idle, hr]
      have hready : step s = .next s.raiseReady :=
        (step_of_waiting_request hin hidle).trans (clockEdge_raiseReady rfl hb hr)
      exact ⟨1, s.raiseReady, by decide, run_one hready, (State.idle_iff _).mpr ⟨rfl, hb⟩, rfl, rfl, rfl, rfl⟩

/-- Settles O54: a request's transaction and a clock edge each leave the Orchestrator alone. -/
theorem onlyTheHostMovesTheOrchestrator : Obligations.OnlyTheHostMovesTheOrchestrator := by
  intro s t hstep hinput
  obtain ⟨u, hstep', hkeeps⟩ := step_keeps_orchestrator hinput
  obtain rfl : u = t := by simpa [hstep'] using hstep
  exact hkeeps

end

section
/-! SUPPORT. The decoder read through the encoder: the worked words of 30_encoding.md section 8. -/

namespace Sys2Proof

/-- The words that decode to an operation are its encoding alone (R52, R59). -/
theorem decode_eq_ok_iff {w : ReqWord} {i : Instr} : decode w = .ok i ↔ encode i = w :=
  ⟨encode_of_decode, fun h => h ▸ decode_encode i⟩

end Sys2Proof

open Sys2Proof Sys2Proof.Machine

/-- Settles O4: each legal word is the encoding of its operation, and the two refused words are run through the decoder. -/
theorem workedEncodingsDecode : Obligations.WorkedEncodingsDecode := by
  refine ⟨?crc8, ?validate, ?encPup, ?encPdn, ?encMeas, ?decode, ?cvtTf, ?cvtxRh, ?reserved, ?mbz⟩
  case crc8 | validate | encPup | encPdn | encMeas | decode | cvtTf | cvtxRh =>
    rw [decode_eq_ok_iff]
    decide
  case reserved | mbz => decide

end
